-- ==== Sys2Proof/Word.lean ====
section
/-!
DEFINITION. The words of QEMC: the widths of 00_scope.md (R8, R9, R15, R18) and 30_encoding.md (R131, R133).
-/

namespace Sys2Proof

/-- An operation word `w[95:0]` (R131). -/
abbrev OpWord := BitVec 96

/-- A response word `r[71:0]` (R133). -/
abbrev RspWord := BitVec 72

/-- A u32 count of microseconds, wrapping (R9). -/
abbrev Tick := BitVec 32

/-- An s32, two's complement: the position count and every other signed count (R8). -/
abbrev S32 := BitVec 32

/-- A u32 register or field. -/
abbrev U32 := BitVec 32

/-- A u8 register or field. -/
abbrev U8 := BitVec 8

/-- The 64-bit pattern of a Q32.32 value (R18). -/
abbrev Fixed := BitVec 64

/-- The 64-bit data field of an operation word or of a response (R131, R133). -/
abbrev Data := BitVec 64

end Sys2Proof
end

