-- ==== Sys2Proof/Syntax.lean ====
section
/-!
DEFINITION. The 25 operations of QEMC (30_encoding.md R135) with their operands (R136). One constructor for each row of
spec/opcode_table.json; none of the rows is another name of a core row.
-/

namespace Sys2Proof

/-- A quadrature pin: `SEL` 0 is A, 1 is B (R136). -/
inductive QPin where
  | a | b
deriving DecidableEq, Repr

/-- A limit pin: `SEL` 0 is LIM_LO, the lower switch, 1 is LIM_HI, the upper switch (R136). -/
inductive LimPin where
  | lo | hi
deriving DecidableEq, Repr

/-- A setpoint memory: `SEL` 0 is VEL, 1 is DIST (R136). -/
inductive SpMem where
  | vel | dist
deriving DecidableEq, Repr

/-- A history field: `SEL` 0 is tick, 1 is count (R136). -/
inductive HistField where
  | tick | count
deriving DecidableEq, Repr

/-- A trace field: `SEL` 0 is ms, 1 is pos, 2 is vel (R136). -/
inductive TraceField where
  | ms | pos | vel
deriving DecidableEq, Repr

/-- The port an operation word arrives on (R130). -/
inductive Port where
  | evt | cmd
deriving DecidableEq, Repr

/-- The operations. An index is a `Nat` (it selects an element of a memory); that it fits the u32 field is
`Instr.wf`. A register number keeps all its 256 values: an unmapped one is a matter for the command (R136). -/
inductive Instr where
  /-- ENC_EDGE p, l, k (R160) -/
  | encEdge (p : QPin) (l : Bool) (k : Tick)
  /-- IDX_EDGE l, k (R168) -/
  | idxEdge (l : Bool) (k : Tick)
  /-- LIM_EDGE p, l (R280) -/
  | limEdge (p : LimPin) (l : Bool)
  /-- ENC_RESET (R169) -/
  | encReset
  /-- GET_COUNT (R170) -/
  | getCount
  /-- GET_CPS (R171) -/
  | getCps
  /-- HIST_RD f, i (R173) -/
  | histRd (f : HistField) (i : Nat)
  /-- REG_RD s (R360) -/
  | regRd (r : BitVec 8)
  /-- REG_WR s, x (R362) -/
  | regWr (r : BitVec 8) (x : Data)
  /-- SP_CLR m (R370) -/
  | spClr (m : SpMem)
  /-- SP_PUSH m, x (R371) -/
  | spPush (m : SpMem) (x : Fixed)
  /-- SP_RD m, i (R372) -/
  | spRd (m : SpMem) (i : Nat)
  /-- TR_RD f, i (R373) -/
  | trRd (f : TraceField) (i : Nat)
  /-- MC_INIT (R201) -/
  | mcInit
  /-- LATCH_ACT (R281) -/
  | latchAct
  /-- LATCH_DEACT (R282) -/
  | latchDeact
  /-- LATCH_RESET (R283) -/
  | latchReset
  /-- HOME (R210) -/
  | home
  /-- RUN_OL T (R212) -/
  | runOl (start : Tick)
  /-- RUN_PDFF T (R213) -/
  | runPdff (start : Tick)
  /-- RUN_PDFF_VIS T (R214) -/
  | runPdffVis (start : Tick)
  /-- RUN_VIS T (R215) -/
  | runVis (start : Tick)
  /-- RUN_POINT T (R216) -/
  | runPoint (start : Tick)
  /-- STOP (R220) -/
  | stop
  /-- CLR_DONE (R221) -/
  | clrDone
deriving DecidableEq, Repr

end Sys2Proof
end

