-- ==== Sys2Proof/WellFormed.lean ====
section
/-!
DEFINITION. Which instructions an operation word can hold. Pins, memories and fields are names, levels, ticks and data
have the field's own type, so the one check left is that an index fits `DATA[31:0]` (30_encoding.md R132, R136).
-/

namespace Sys2Proof

/-- The largest index count of format X: an index is a u32 (R136). -/
def indexBound : Nat := 2 ^ 32

/-- Every operand of the instruction fits its field of the operation word (R132, R136). -/
def Instr.wf : Instr → Bool
  | .histRd _ i => decide (i < indexBound)
  | .spRd _ i => decide (i < indexBound)
  | .trRd _ i => decide (i < indexBound)
  | .encEdge _ _ _ | .idxEdge _ _ | .limEdge _ _ | .encReset | .getCount | .getCps | .regRd _ | .regWr _ _
  | .spClr _ | .spPush _ _ | .mcInit | .latchAct | .latchDeact | .latchReset | .home | .runOl _ | .runPdff _
  | .runPdffVis _ | .runVis _ | .runPoint _ | .stop | .clrDone => true

/-- The port on which the instruction's words are legal (R135). -/
def Instr.port : Instr → Port
  | .encEdge _ _ _ | .idxEdge _ _ | .limEdge _ _ => .evt
  | .encReset | .getCount | .getCps | .histRd _ _ | .regRd _ | .regWr _ _ | .spClr _ | .spPush _ _ | .spRd _ _
  | .trRd _ _ | .mcInit | .latchAct | .latchDeact | .latchReset | .home | .runOl _ | .runPdff _ | .runPdffVis _
  | .runVis _ | .runPoint _ | .stop | .clrDone => .cmd

end Sys2Proof
end

