-- ==== Sys2Proof/Decode.lean ====
section
/-!
DEFINITION. The decoder, total on every 96-bit word and rejecting by name (30_encoding.md R131 to R143), the encoder
written from the same tables, and the serial carriage of a word (20_memory.md R102).
-/

namespace Sys2Proof

/-! ## The five fields (R131) -/

/-- `OPC = w[95:88]`. -/
def opcOf (w : OpWord) : BitVec 8 := w.extractLsb' 88 8

/-- `SEL = w[87:80]`. -/
def selOf (w : OpWord) : BitVec 8 := w.extractLsb' 80 8

/-- `RSV = w[79:65]`. -/
def rsvOf (w : OpWord) : BitVec 15 := w.extractLsb' 65 15

/-- `LVL = w[64]`. -/
def lvlOf (w : OpWord) : Bool := w.getLsbD 64

/-- `DATA = w[63:0]`. -/
def dataOf (w : OpWord) : Data := w.extractLsb' 0 64

/-- `DATA[63:32]`. -/
def hiOf (w : OpWord) : BitVec 32 := w.extractLsb' 32 32

/-- `DATA[31:0]`. -/
def loOf (w : OpWord) : BitVec 32 := w.extractLsb' 0 32

/-- A word from its fields, `RSV` zero (R131). -/
def packWord (opc sel : BitVec 8) (lvl : Bool) (hi lo : BitVec 32) : OpWord :=
  opc ++ sel ++ 0#15 ++ BitVec.ofBool lvl ++ hi ++ lo

/-! ## Opcodes and formats (R132, R135) -/

/-- The seven formats (R132). -/
inductive Format where
  | e | l | z | s | d | x | t
deriving DecidableEq, Repr

/-- Does the format use `SEL`? (R132) -/
def Format.usesSel : Format → Bool
  | .e | .l | .s | .d | .x => true
  | .z | .t => false

/-- Does the format use `LVL`? (R132) -/
def Format.usesLvl : Format → Bool
  | .e | .l => true
  | .z | .s | .d | .x | .t => false

/-- Does the format use `DATA[63:32]`? (R132) -/
def Format.usesHi : Format → Bool
  | .d => true
  | .e | .l | .z | .s | .x | .t => false

/-- Does the format use `DATA[31:0]`? (R132) -/
def Format.usesLo : Format → Bool
  | .e | .d | .x | .t => true
  | .l | .z | .s => false

/-- Every field the format does not use is zero (R132). -/
def Format.unusedZero (f : Format) (w : OpWord) : Bool :=
  (f.usesSel || selOf w == 0#8) && (f.usesLvl || !lvlOf w) &&
  (f.usesHi || hiOf w == 0#32) && (f.usesLo || loOf w == 0#32)

/-- The operations as names, without operands (R135). -/
inductive Opcode where
  | encEdge | idxEdge | limEdge | encReset | getCount | getCps | histRd | regRd | regWr | spClr | spPush | spRd | trRd
  | mcInit | latchAct | latchDeact | latchReset | home | runOl | runPdff | runPdffVis | runVis | runPoint | stop
  | clrDone
deriving DecidableEq, Repr

/-- All operations, in the order of R135. -/
def Opcode.all : List Opcode :=
  [.encEdge, .idxEdge, .limEdge, .encReset, .getCount, .getCps, .histRd, .regRd, .regWr, .spClr, .spPush, .spRd,
   .trRd, .mcInit, .latchAct, .latchDeact, .latchReset, .home, .runOl, .runPdff, .runPdffVis, .runVis, .runPoint,
   .stop, .clrDone]

/-- `OPC` of each operation (R135). -/
def Opcode.byte : Opcode → BitVec 8
  | .encEdge => 0x01#8
  | .idxEdge => 0x02#8
  | .limEdge => 0x03#8
  | .encReset => 0x10#8
  | .getCount => 0x11#8
  | .getCps => 0x12#8
  | .histRd => 0x14#8
  | .regRd => 0x20#8
  | .regWr => 0x21#8
  | .spClr => 0x28#8
  | .spPush => 0x29#8
  | .spRd => 0x2A#8
  | .trRd => 0x2C#8
  | .mcInit => 0x30#8
  | .latchAct => 0x31#8
  | .latchDeact => 0x32#8
  | .latchReset => 0x33#8
  | .home => 0x34#8
  | .runOl => 0x38#8
  | .runPdff => 0x39#8
  | .runPdffVis => 0x3A#8
  | .runVis => 0x3B#8
  | .runPoint => 0x3C#8
  | .stop => 0x3E#8
  | .clrDone => 0x3F#8

/-- The port each operation is legal on (R135). -/
def Opcode.port : Opcode → Port
  | .encEdge | .idxEdge | .limEdge => .evt
  | .encReset | .getCount | .getCps | .histRd | .regRd | .regWr | .spClr | .spPush | .spRd | .trRd | .mcInit
  | .latchAct | .latchDeact | .latchReset | .home | .runOl | .runPdff | .runPdffVis | .runVis | .runPoint | .stop
  | .clrDone => .cmd

/-- The format of each operation (R132, R135). -/
def Opcode.format : Opcode → Format
  | .encEdge | .idxEdge => .e
  | .limEdge => .l
  | .encReset | .getCount | .getCps | .mcInit | .latchAct | .latchDeact | .latchReset | .home | .stop | .clrDone => .z
  | .regRd | .spClr => .s
  | .regWr | .spPush => .d
  | .histRd | .spRd | .trRd => .x
  | .runOl | .runPdff | .runPdffVis | .runVis | .runPoint => .t

/-- The operation an `OPC` stands for, if any (R135, R142). -/
def Opcode.ofByte (b : BitVec 8) : Option Opcode := Opcode.all.find? fun o => o.byte == b

/-! ## Selectors (R136) -/

/-- A quadrature pin from `SEL`. -/
def QPin.ofSel (s : BitVec 8) : Option QPin :=
  if s = 0#8 then some .a else if s = 1#8 then some .b else none

/-- `SEL` of a quadrature pin. -/
def QPin.sel : QPin → BitVec 8
  | .a => 0#8
  | .b => 1#8

/-- A limit pin from `SEL`. -/
def LimPin.ofSel (s : BitVec 8) : Option LimPin :=
  if s = 0#8 then some .lo else if s = 1#8 then some .hi else none

/-- `SEL` of a limit pin. -/
def LimPin.sel : LimPin → BitVec 8
  | .lo => 0#8
  | .hi => 1#8

/-- A setpoint memory from `SEL`. -/
def SpMem.ofSel (s : BitVec 8) : Option SpMem :=
  if s = 0#8 then some .vel else if s = 1#8 then some .dist else none

/-- `SEL` of a setpoint memory. -/
def SpMem.sel : SpMem → BitVec 8
  | .vel => 0#8
  | .dist => 1#8

/-- A history field from `SEL`. -/
def HistField.ofSel (s : BitVec 8) : Option HistField :=
  if s = 0#8 then some .tick else if s = 1#8 then some .count else none

/-- `SEL` of a history field. -/
def HistField.sel : HistField → BitVec 8
  | .tick => 0#8
  | .count => 1#8

/-- A trace field from `SEL`. -/
def TraceField.ofSel (s : BitVec 8) : Option TraceField :=
  if s = 0#8 then some .ms else if s = 1#8 then some .pos else if s = 2#8 then some .vel else none

/-- `SEL` of a trace field. -/
def TraceField.sel : TraceField → BitVec 8
  | .ms => 0#8
  | .pos => 1#8
  | .vel => 2#8

/-! ## The decoder -/

/-- Why a word is illegal on its port (R140, R141). -/
inductive Reject where
  /-- `OPC` is assigned to nothing (R142). -/
  | reservedOpcode
  /-- `OPC` is an operation of the other port (R135). -/
  | wrongPort
  /-- `RSV` is not zero. -/
  | reservedBits
  /-- A field the format does not use is not zero. -/
  | unusedField
  /-- `SEL` is outside the set of its operand kind (R136). -/
  | badSelector
deriving DecidableEq, Repr

/-- What the decoder answers: one legal operation, or illegal and why (R140). -/
inductive Decoded where
  | ok (i : Instr)
  | illegal (r : Reject)
deriving DecidableEq, Repr

/-- The instruction of a legal decode. -/
def Decoded.instr? : Decoded → Option Instr
  | .ok i => some i
  | .illegal _ => none

/-- The operands of an operation, assembled from the word (R136); `none` where `SEL` is outside its set (for IDX_EDGE,
`SEL` is not 0: R135). -/
def operands (o : Opcode) (w : OpWord) : Option Instr :=
  match o with
  | .encEdge => (QPin.ofSel (selOf w)).map fun p => .encEdge p (lvlOf w) (loOf w)
  | .idxEdge => if selOf w = 0#8 then some (.idxEdge (lvlOf w) (loOf w)) else none
  | .limEdge => (LimPin.ofSel (selOf w)).map fun p => .limEdge p (lvlOf w)
  | .encReset => some .encReset
  | .getCount => some .getCount
  | .getCps => some .getCps
  | .histRd => (HistField.ofSel (selOf w)).map fun f => .histRd f (loOf w).toNat
  | .regRd => some (.regRd (selOf w))
  | .regWr => some (.regWr (selOf w) (dataOf w))
  | .spClr => (SpMem.ofSel (selOf w)).map fun m => .spClr m
  | .spPush => (SpMem.ofSel (selOf w)).map fun m => .spPush m (dataOf w)
  | .spRd => (SpMem.ofSel (selOf w)).map fun m => .spRd m (loOf w).toNat
  | .trRd => (TraceField.ofSel (selOf w)).map fun f => .trRd f (loOf w).toNat
  | .mcInit => some .mcInit
  | .latchAct => some .latchAct
  | .latchDeact => some .latchDeact
  | .latchReset => some .latchReset
  | .home => some .home
  | .runOl => some (.runOl (loOf w))
  | .runPdff => some (.runPdff (loOf w))
  | .runPdffVis => some (.runPdffVis (loOf w))
  | .runVis => some (.runVis (loOf w))
  | .runPoint => some (.runPoint (loOf w))
  | .stop => some .stop
  | .clrDone => some .clrDone

/-- The decoder of one port: total, and no state of the block changes it (R140, R141, R143). -/
def decode (p : Port) (w : OpWord) : Decoded :=
  match Opcode.ofByte (opcOf w) with
  | none => .illegal .reservedOpcode
  | some o =>
    if o.port ≠ p then .illegal .wrongPort
    else if rsvOf w ≠ 0#15 then .illegal .reservedBits
    else if o.format.unusedZero w = false then .illegal .unusedField
    else match operands o w with
      | none => .illegal .badSelector
      | some i => .ok i

/-! ## The encoder -/

/-- The word of an instruction (R131, R132, R135, R136); an index keeps its low 32 bits, all of it when `Instr.wf`. -/
def encode : Instr → OpWord
  | .encEdge p l k => packWord 0x01#8 p.sel l 0#32 k
  | .idxEdge l k => packWord 0x02#8 0#8 l 0#32 k
  | .limEdge p l => packWord 0x03#8 p.sel l 0#32 0#32
  | .encReset => packWord 0x10#8 0#8 false 0#32 0#32
  | .getCount => packWord 0x11#8 0#8 false 0#32 0#32
  | .getCps => packWord 0x12#8 0#8 false 0#32 0#32
  | .histRd f i => packWord 0x14#8 f.sel false 0#32 (BitVec.ofNat 32 i)
  | .regRd r => packWord 0x20#8 r false 0#32 0#32
  | .regWr r x => packWord 0x21#8 r false (x.extractLsb' 32 32) (x.extractLsb' 0 32)
  | .spClr m => packWord 0x28#8 m.sel false 0#32 0#32
  | .spPush m x => packWord 0x29#8 m.sel false (x.extractLsb' 32 32) (x.extractLsb' 0 32)
  | .spRd m i => packWord 0x2A#8 m.sel false 0#32 (BitVec.ofNat 32 i)
  | .trRd f i => packWord 0x2C#8 f.sel false 0#32 (BitVec.ofNat 32 i)
  | .mcInit => packWord 0x30#8 0#8 false 0#32 0#32
  | .latchAct => packWord 0x31#8 0#8 false 0#32 0#32
  | .latchDeact => packWord 0x32#8 0#8 false 0#32 0#32
  | .latchReset => packWord 0x33#8 0#8 false 0#32 0#32
  | .home => packWord 0x34#8 0#8 false 0#32 0#32
  | .runOl t => packWord 0x38#8 0#8 false 0#32 t
  | .runPdff t => packWord 0x39#8 0#8 false 0#32 t
  | .runPdffVis t => packWord 0x3A#8 0#8 false 0#32 t
  | .runVis t => packWord 0x3B#8 0#8 false 0#32 t
  | .runPoint t => packWord 0x3C#8 0#8 false 0#32 t
  | .stop => packWord 0x3E#8 0#8 false 0#32 0#32
  | .clrDone => packWord 0x3F#8 0#8 false 0#32 0#32

/-! ## Words of the opcode table -/

/-- The port a bare word belongs to: that of its opcode, the CMD port when the opcode is reserved (R135).
DEDUCED, safe: a table row carries its port beside its bits; log entry 11. -/
def portOfWord (w : OpWord) : Port :=
  match Opcode.ofByte (opcOf w) with
  | some o => o.port
  | none => .cmd

/-- The operation word given by the low `nbits` bits of `w`, every bit above them zero. The block has one word length of
96 bits (R131), numbered in opcode_table.json as `w[95:0]`. -/
def tableWord (nbits w : Nat) : OpWord := BitVec.ofNat 96 (w % 2 ^ nbits)

/-- The instruction the decoder reads from a word of the opcode table, on the port of its opcode. -/
def decodeTableWord (nbits w : Nat) : Option Instr :=
  (decode (portOfWord (tableWord nbits w)) (tableWord nbits w)).instr?

/-! ## Serial carriage (20_memory.md R102) -/

/-- A word over a 32-bit channel, the most significant part first. -/
def serialWords (w : OpWord) : List (BitVec 32) := [w.extractLsb' 64 32, w.extractLsb' 32 32, w.extractLsb' 0 32]

/-- A word over a byte channel: the three 32-bit words `w[95:64]`, `w[63:32]`, `w[31:0]` in that order, each big-endian,
which is the twelve bytes from the most significant down. -/
def serialBytes (w : OpWord) : List (BitVec 8) :=
  [w.extractLsb' 88 8, w.extractLsb' 80 8, w.extractLsb' 72 8, w.extractLsb' 64 8,
   w.extractLsb' 56 8, w.extractLsb' 48 8, w.extractLsb' 40 8, w.extractLsb' 32 8,
   w.extractLsb' 24 8, w.extractLsb' 16 8, w.extractLsb' 8 8, w.extractLsb' 0 8]

/-- The word carried by the first twelve bytes of a channel, with the rest of the channel; `none` when fewer are left. -/
def wordOfSerial : List (BitVec 8) → Option (OpWord × List (BitVec 8))
  | b0 :: b1 :: b2 :: b3 :: b4 :: b5 :: b6 :: b7 :: b8 :: b9 :: b10 :: b11 :: rest =>
    some (b0 ++ b1 ++ b2 ++ b3 ++ b4 ++ b5 ++ b6 ++ b7 ++ b8 ++ b9 ++ b10 ++ b11, rest)
  | _ => none

/-- A response word `r[71:0]` over a byte channel, the most significant byte first: STATUS, then RDATA from `r[63:56]` down
to `r[7:0]`. -/
def serialRspBytes (r : RspWord) : List (BitVec 8) :=
  [r.extractLsb' 64 8, r.extractLsb' 56 8, r.extractLsb' 48 8, r.extractLsb' 40 8, r.extractLsb' 32 8,
   r.extractLsb' 24 8, r.extractLsb' 16 8, r.extractLsb' 8 8, r.extractLsb' 0 8]

/-- The response word carried by the first nine bytes of a channel, with the rest of the channel; `none` when fewer are
left. -/
def rspOfSerial : List (BitVec 8) → Option (RspWord × List (BitVec 8))
  | b0 :: b1 :: b2 :: b3 :: b4 :: b5 :: b6 :: b7 :: b8 :: rest =>
    some (b0 ++ b1 ++ b2 ++ b3 ++ b4 ++ b5 ++ b6 ++ b7 ++ b8, rest)
  | _ => none

end Sys2Proof
end

