-- ==== Sys2Proof/Config.lean ====
section
/-!
DEFINITION. What is not state of the block (10_state.md R76): the instance parameters, the live samples of the
environment, and the order in which the agents step.
-/

namespace Sys2Proof

/-- The axis an instance is strapped to (00_scope.md R10). -/
inductive Axis where
  | leftX | leftY | rightX | rightY
deriving DecidableEq, Repr

/-- The AXIS_ID strap (R10). -/
def Axis.id : Axis → BitVec 2
  | .leftX => 0#2
  | .leftY => 1#2
  | .rightX => 2#2
  | .rightY => 3#2

/-- The parameters fixed when the instance is built (R7, R10, R11). -/
structure Config where
  /-- `N`, the width of the encoder history (R7). -/
  n : Nat
  /-- `SP_MAX`, the capacity of each setpoint memory (R11). -/
  spMax : Nat
  /-- `TRACE_MAX`, the capacity of the trace memory (R11). -/
  traceMax : Nat
  /-- `AXIS_ID` (R10). -/
  axis : Axis
deriving DecidableEq, Repr

/-- The legal parameters: 2 ≤ N ≤ 65535 (R7), SP_MAX ≥ 1 (R11).
DEDUCED, safe: SP_MAX and TRACE_MAX are below 2^32, since VLEN, DLEN and TRACE_LEN are u32 registers (10_state.md R75);
log entry 9. -/
abbrev Config.wf (c : Config) : Prop :=
  2 ≤ c.n ∧ c.n ≤ 65535 ∧ 1 ≤ c.spMax ∧ c.spMax < 2 ^ 32 ∧ c.traceMax < 2 ^ 32

/-- The instance of the test vectors: N = 4, SP_MAX = TRACE_MAX = 65536 (95_test_vectors.md), axis left-X.
DESIGN CHOICE, unsafe for a statement about `State.reset` alone: the spec leaves all four open; log entry 1. -/
def Config.ofVectors : Config := { n := 4, spMax := 65536, traceMax := 65536, axis := .leftX }

/-- What the environment presents at one step (00_scope.md R21, 20_memory.md R104): the tick, the two limit-switch
levels (true is 1, high) and the vision demand. -/
structure Live where
  tick : Tick
  limLo : Bool
  limHi : Bool
  vis : Fixed
deriving DecidableEq, Repr, Inhabited

/-- Whose step it is (20_memory.md R110; 70_reset_and_hazards.md R440 for reset), with the word that arrived. -/
inductive Turn where
  /-- RESET is asserted. -/
  | reset
  /-- A word arrives on the EVT port. -/
  | event (w : OpWord)
  /-- A word arrives on the CMD port. -/
  | command (w : OpWord)
  /-- The sequencer takes a step. -/
  | sequencer
deriving DecidableEq, Repr, Inhabited

/-- One step's turn with the samples that step sees (30_encoding.md R147 writes such a line). -/
structure Stimulus where
  turn : Turn
  live : Live
deriving DecidableEq, Repr, Inhabited

/-- FREE VALUE: the stimulus that comes when `State.script` holds none. The spec fixes neither the order of the agents
nor any sample (R104, R110, R117; 93_implementation_defined.md I22, I23), so nothing is known of it; log entry 3. -/
opaque Config.freeStimulus : Nat → Stimulus

end Sys2Proof
end

