-- ==== Sys2Proof/Machine/State.lean ====
section
/-!
DEFINITION. The state of one QEMC instance (10_state.md) as plain data, and its value after reset
(70_reset_and_hazards.md R440).
-/

namespace Sys2Proof.Machine

/-! ## Why a step can stop -/

/-- A stop of the sequencer. No operation raises a fault: the block has no trap (60_exceptions.md R401). -/
inductive Fault where
  /-- Raised by a sequencer step when `MC_STATE` is busy and `PHASE` is not one of its phases (10_state.md R41 gives the
  phases of each state). No reachable state has it. Safe: log entry 7. -/
  | badPhase
  /-- Raised by a SAMPLE step of a run that must divide by `CPM` while `CPM` = 0; 44_control_laws.md R320 says that the
  division is always defined. No reachable state has it. Safe: log entry 8. -/
  | cpmZero
deriving DecidableEq, Repr

/-- A refusal. -/
inductive Refusal where
  /-- An arm of `exec` that has no meaning yet; none is left, so nothing raises it. Safe. -/
  | notModelled (mnemonic : String)
deriving DecidableEq, Repr

/-! ## Encoder unit -/

/-- The debounce key `LAST_PIN` (R32). -/
inductive LastPin where
  | none | a | b
deriving DecidableEq, Repr

/-- One sample of the history (R33). -/
structure HistSample where
  tick : Tick
  count : S32
deriving DecidableEq, Repr

/-- The encoder unit's registers (R30 to R36); its history is in `Memory`. -/
structure Encoder where
  /-- `COUNT`, signed (R30). -/
  count : S32
  /-- `LEV_A` (R31). -/
  levA : Bool
  /-- `LEV_B` (R31). -/
  levB : Bool
  /-- `LAST_PIN` (R32). -/
  lastPin : LastPin
  /-- `ENC_EN` (R34). -/
  encEn : Bool
  /-- `IDX_RST_EN` (R35). -/
  idxRstEn : Bool
  /-- `IDX_LOG`, signed (R36). -/
  idxLog : S32
  /-- `IDX_VALID` (R36). -/
  idxValid : Bool
deriving DecidableEq, Repr

/-! ## Motor Controller unit -/

/-- `MC_STATE` (R40). The codes 6, 7, 13, 14, 15, which never occur, have no constructor. -/
inductive McState where
  | uninit | idle | homing | homeFailRec | homeFailFatal | homed | runOl | runPdff | runPdffVis | runVis | runPoint
deriving DecidableEq, Repr

/-- `PHASE` (R41). Its value 0 stands under three names: H_ENTRY in HOMING, R_WAIT in a RUN state, `rest` elsewhere;
`Phase.code` is the register's value. -/
inductive Phase where
  | rest
  | hEntry | hProbeDn | hBackoff | hProbeUp | hCleanDn | hCleanDnConf | hCleanUp | hCleanUpConf | hMoveOff | hSeek
  | hSettle1 | hSettle2
  | rWait | rSample | rCommit | rVSample | rVCommit
deriving DecidableEq, Repr

/-- The eight flags (R42 to R44). -/
structure Flags where
  /-- `HOMED` -/
  homed : Bool
  /-- `PATH_STARTED` -/
  pathStarted : Bool
  /-- `PATH_DONE` -/
  pathDone : Bool
  /-- `VIS_STARTED` -/
  visStarted : Bool
  /-- `VIS_DONE` -/
  visDone : Bool
  /-- `ALL_DONE` -/
  allDone : Bool
  /-- `LIMIT_LATCH`, sticky (R43). -/
  limitLatch : Bool
  /-- `LATCH_EN` (R44). -/
  latchEn : Bool
deriving DecidableEq, Repr

/-- A value for the actuator outputs: a duty and a direction (R45, R46, R71). -/
structure Drive where
  duty : U8
  dir : Bool
deriving DecidableEq, Repr

/-- The configuration the host writes (R47 to R55, R66 to R69). -/
structure Setup where
  /-- `DIR_NEG` (R47). -/
  dirNeg : Bool
  /-- `VIS_BOUND` (R48). -/
  visBound : Bool
  /-- `KVIS_SET` (R49). -/
  kvisSet : Bool
  /-- `MIN_UP` (R50). -/
  minUp : U8
  /-- `MIN_DOWN` (R50). -/
  minDown : U8
  /-- `TOL` (R51). -/
  tol : U32
  /-- `PROBE_CEIL` (R66). -/
  probeCeil : U32
  /-- `SLACK_HI_PATH` (R67). -/
  slackHiPath : U32
  /-- `SLACK_HI_VIS` (R68). -/
  slackHiVis : U32
  /-- `SLACK_LO` (R69). -/
  slackLo : U32
  /-- `LIMIT_WIDTH` (R52). -/
  limitWidth : Fixed
  /-- `WORKSPACE_WIDTH` (R52). -/
  workspaceWidth : Fixed
  /-- `K_FF` (R53). -/
  kFf : Fixed
  /-- `K_P` (R53). -/
  kP : Fixed
  /-- `K_D` (R53). -/
  kD : Fixed
  /-- `PWM_CONST` (R53). -/
  pwmConst : Fixed
  /-- `K_VIS` (R53). -/
  kVis : Fixed
  /-- `T_PARAM`, milliseconds (R54). -/
  tParam : U32
  /-- `POINT_TARGET`, signed (R55). -/
  pointTarget : S32
deriving DecidableEq, Repr

/-- The calibration results of homing (R56 to R59); the three rationals are held exactly. -/
structure Calib where
  /-- `SPAN`, signed (R56). -/
  span : S32
  /-- `CPM` (R57). -/
  cpm : ℚ
  /-- `WW_COUNT` (R58). -/
  wwCount : ℚ
  /-- `LIMIT_BUFFER` (R59). -/
  limitBuffer : ℚ
deriving DecidableEq, Repr

/-- `HOME_RESULT` (R63). -/
inductive HomeResult where
  | success | recoverable | fatal | none | stopped | inProgress
deriving DecidableEq, Repr

/-- Why a run ended (R64, 44_control_laws.md R303). -/
inductive Cause where
  | complete | abortLatch | abortWsHigh | abortWsLow | stopped | reached
deriving DecidableEq, Repr

/-- `RUN_RESULT` (R64). -/
inductive RunResult where
  | none | ended (c : Cause) | inProgress
deriving DecidableEq, Repr

/-- One sample of the diagnostic trace (R61): metres and metres per second are exact. -/
structure TraceSample where
  ms : U32
  pos : ℚ
  vel : ℚ
deriving DecidableEq, Repr

/-! ## The four memories (20_memory.md R100) -/

/-- The storage spaces (2) to (5) of R100. The lengths are `FILL`, `VLEN`, `DLEN` and `TRACE_LEN`. -/
structure Memory where
  /-- `HIST`, oldest first (R33). -/
  hist : List HistSample
  /-- `VEL` (R60). -/
  vel : List Fixed
  /-- `DIST` (R60). -/
  dist : List Fixed
  /-- `TRACE` (R61). -/
  trace : List TraceSample
deriving DecidableEq, Repr

/-- No memory holds more than its capacity (R33, R60, R61). -/
abbrev Memory.wf (c : Config) (m : Memory) : Prop :=
  m.hist.length ≤ c.n ∧ m.vel.length ≤ c.spMax ∧ m.dist.length ≤ c.spMax ∧ m.trace.length ≤ c.traceMax

/-! ## Responses -/

/-- The fourteen values of `STATUS` (60_exceptions.md R400). -/
inductive Status where
  | ok | okDegenerate
  | errIllegal | errState | errRange | errBusy | errFull | errIndex | errRo | errUnmapped
  | errNotHomed | errNoSetpoints | errNoVgain | errNoVbind
deriving DecidableEq, Repr

/-- A response (30_encoding.md R133). -/
structure Response where
  status : Status
  data : Data
deriving DecidableEq, Repr

/-! ## The whole state -/

/-- One instance. The fields from `cfg` to `turnNo` at the end are the model's own (INVENTORY.md, State). -/
structure State where
  /-- The encoder unit. -/
  enc : Encoder
  /-- `HIST`, `VEL`, `DIST`, `TRACE`. -/
  mem : Memory
  /-- `MC_STATE` (R40). -/
  mcState : McState
  /-- `PHASE` (R41). -/
  phase : Phase
  /-- The flags (R42 to R44). -/
  flags : Flags
  /-- `DUTY`, driven out (R45). -/
  duty : U8
  /-- `DIR`, driven out (R46). -/
  dir : Bool
  /-- The configuration registers. -/
  setup : Setup
  /-- The calibration results. -/
  cal : Calib
  /-- `LAST_MS` (R61). -/
  lastMs : Option U32
  /-- `HOME_RESULT` (R63). -/
  homeResult : HomeResult
  /-- `RUN_RESULT` (R64). -/
  runResult : RunResult
  /-- `ERR_FLAGS` bits 1:0 (R65). -/
  errFlags : BitVec 2
  /-- `T0` (R70). -/
  t0 : Tick
  /-- `TV0` (R70). -/
  tv0 : Tick
  /-- `PEND` (R71). -/
  pend : Option Drive
  /-- `START`, signed (R72). -/
  start : S32
  /-- The instance parameters (R76); no step writes them. -/
  cfg : Config
  /-- The samples of the step in progress (20_memory.md R104). -/
  live : Live
  /-- The response port: the response of the step just taken, if it was a command (30_encoding.md R133). -/
  rsp : Option Response
  /-- The stimuli that come next, the nearest first. -/
  script : List Stimulus
  /-- How many free stimuli have been drawn. -/
  turnNo : Nat
deriving DecidableEq, Repr

/-- An instance with parameters `c` right after reset (R440), its stimuli aside. -/
def State.resetOf (c : Config) : State where
  enc := { count := 0#32, levA := false, levB := false, lastPin := .none, encEn := true, idxRstEn := false,
           idxLog := 0#32, idxValid := false }
  mem := { hist := [], vel := [], dist := [], trace := [] }
  mcState := .uninit
  phase := .rest
  flags := { homed := false, pathStarted := false, pathDone := false, visStarted := false, visDone := false,
             allDone := false, limitLatch := false, latchEn := false }
  duty := 0#8
  dir := true
  setup := { dirNeg := false, visBound := false, kvisSet := false, minUp := 0#8, minDown := 0#8, tol := 0#32,
             probeCeil := 0#32, slackHiPath := 0#32, slackHiVis := 0#32, slackLo := 0#32, limitWidth := 0#64,
             workspaceWidth := 0#64, kFf := 0#64, kP := 0#64, kD := 0#64, pwmConst := 0#64, kVis := 0#64,
             tParam := 0#32, pointTarget := 0#32 }
  cal := { span := 0#32, cpm := 0, wwCount := 0, limitBuffer := 0 }
  lastMs := none
  homeResult := .none
  runResult := .none
  errFlags := 0#2
  t0 := 0#32
  tv0 := 0#32
  pend := none
  start := 0#32
  cfg := c
  live := { tick := 0#32, limLo := true, limHi := true, vis := 0#64 }
  rsp := none
  script := []
  turnNo := 0

/-- The machine right after reset: the instance of the test vectors (log entries 1, 3, 4, 5). -/
def State.reset : State := State.resetOf Config.ofVectors

end Sys2Proof.Machine
end

