-- ==== Sys2Proof/Machine/Operands.lean ====
section
/-!
DEFINITION. Numbers and operand forms: rounding, clipping, the Q32.32 image, ticks and elapsed time (00_scope.md R15 to
R19), and which 64-bit values fit which register type (30_encoding.md R136, 45_register_access.md R365). Every
computation is exact; the only roundings are `round` and `qImage` (R16).
-/

namespace Sys2Proof.Machine

/-! ## Rounding and clipping (R17) -/

/-- `sgn(x)`. -/
def sgn (x : ℚ) : ℤ := if x < 0 then -1 else if x = 0 then 0 else 1

/-- `round(x)`, to the nearest integer, ties away from zero. -/
def roundAway (x : ℚ) : ℤ := sgn x * ⌊|x| + 1 / 2⌋

/-- `clip(v, lo, hi)`. -/
def clip (v lo hi : ℤ) : ℤ := max lo (min hi v)

/-- `clip(v, 0, 255)` as a duty. -/
def clipDuty (v : ℤ) : U8 := BitVec.ofInt 8 (clip v 0 255)

/-! ## Q32.32 (R18) -/

/-- `val(r)`, the rational a Q32.32 pattern stands for. -/
def val (r : Fixed) : ℚ := (r.toInt : ℚ) / 2 ^ 32

/-- `Q(x)`, the saturated Q32.32 image of a rational. -/
def qImage (x : ℚ) : Fixed := BitVec.ofInt 64 (clip (roundAway (x * 2 ^ 32)) (-2 ^ 63) (2 ^ 63 - 1))

/-- The pattern of −1, the vision sentinel (44_control_laws.md R342). -/
def visSentinel : Fixed := BitVec.ofInt 64 (-2 ^ 32)

/-! ## Counts and ticks (R19; 44_control_laws.md R302) -/

/-- `wrap32s(COUNT + k)` on the stored pattern. -/
def wrapAdd (c : S32) (k : ℤ) : S32 := BitVec.ofInt 32 (c.toInt + k)

/-- `udiff32(a, b)`. -/
def udiff32 (a b : Tick) : Nat := (a - b).toNat

/-- `ElapsedMs(now, origin)` (R302). -/
def elapsedMs (now origin : Tick) : Nat := udiff32 now origin / 1000

/-- Is the start tick reached: `udiff32(now, T0) < 2^31` (44_control_laws.md R301). -/
def tickReached (now t0 : Tick) : Bool := decide (udiff32 now t0 < 2 ^ 31)

/-! ## Values that fit a register type (45_register_access.md R365) -/

/-- `u8`: at most 255 as an unsigned 64-bit integer. -/
def fitsU8 (x : Data) : Bool := decide (x.toNat ≤ 255)

/-- `u32`: at most 2^32 − 1. -/
def fitsU32 (x : Data) : Bool := decide (x.toNat ≤ 2 ^ 32 - 1)

/-- `s32`: `sint_64(DATA)` lies in −2^31 to 2^31 − 1. -/
def fitsS32 (x : Data) : Bool := decide (-2 ^ 31 ≤ x.toInt) && decide (x.toInt ≤ 2 ^ 31 - 1)

/-- `bits` with the two bits 1:0 defined. -/
def fitsBits2 (x : Data) : Bool := decide (x.toNat < 4)

/-- The low 8 bits of a value that fits u8. -/
def toU8 (x : Data) : U8 := x.setWidth 8

/-- The low 32 bits of a value that fits u32 or s32. -/
def toU32 (x : Data) : U32 := x.setWidth 32

end Sys2Proof.Machine
end

