-- ==== Sys2Proof/Machine/Flags.lean ====
section
/-!
DEFINITION. The register values of the named states, phases, results and statuses, the composite status registers
(10_state.md R40, R41, R63, R64, R73), the sticky error flags (R65), and the sets of states the rules speak of
(41_motor_commands.md R200).
-/

namespace Sys2Proof.Machine

/-! ## Codes -/

/-- The code of `MC_STATE` (R40). -/
def McState.code : McState → BitVec 4
  | .uninit => 0#4
  | .idle => 1#4
  | .homing => 2#4
  | .homeFailRec => 3#4
  | .homeFailFatal => 4#4
  | .homed => 5#4
  | .runOl => 8#4
  | .runPdff => 9#4
  | .runPdffVis => 10#4
  | .runVis => 11#4
  | .runPoint => 12#4

/-- The value of `PHASE` (R41). -/
def Phase.code : Phase → BitVec 4
  | .rest => 0#4
  | .hEntry => 0#4
  | .hProbeDn => 1#4
  | .hBackoff => 2#4
  | .hProbeUp => 3#4
  | .hCleanDn => 4#4
  | .hCleanDnConf => 5#4
  | .hCleanUp => 6#4
  | .hCleanUpConf => 7#4
  | .hMoveOff => 8#4
  | .hSeek => 9#4
  | .hSettle1 => 10#4
  | .hSettle2 => 11#4
  | .rWait => 0#4
  | .rSample => 1#4
  | .rCommit => 2#4
  | .rVSample => 3#4
  | .rVCommit => 4#4

/-- The value of `LAST_PIN` in `ENC_STATUS` (R32). -/
def LastPin.code : LastPin → BitVec 2
  | .none => 0#2
  | .a => 1#2
  | .b => 2#2

/-- The code of `HOME_RESULT` (R63). -/
def HomeResult.code : HomeResult → U8
  | .success => 0x00#8
  | .recoverable => 0x01#8
  | .fatal => 0x02#8
  | .none => 0xFD#8
  | .stopped => 0xFE#8
  | .inProgress => 0xFF#8

/-- The code of a run's cause (R64, 44_control_laws.md R303). -/
def Cause.code : Cause → U8
  | .complete => 0x01#8
  | .abortLatch => 0x02#8
  | .abortWsHigh => 0x03#8
  | .abortWsLow => 0x04#8
  | .stopped => 0x05#8
  | .reached => 0x06#8

/-- The code of `RUN_RESULT` (R64). -/
def RunResult.code : RunResult → U8
  | .none => 0x00#8
  | .ended c => c.code
  | .inProgress => 0xFF#8

/-- The value of `STATUS` (60_exceptions.md R400). -/
def Status.code : Status → BitVec 8
  | .ok => 0x00#8
  | .okDegenerate => 0x01#8
  | .errIllegal => 0x10#8
  | .errState => 0x11#8
  | .errRange => 0x12#8
  | .errBusy => 0x13#8
  | .errFull => 0x14#8
  | .errIndex => 0x15#8
  | .errRo => 0x16#8
  | .errUnmapped => 0x17#8
  | .errNotHomed => 0x20#8
  | .errNoSetpoints => 0x21#8
  | .errNoVgain => 0x22#8
  | .errNoVbind => 0x23#8

/-- The 72-bit word on the response port (30_encoding.md R133); `serialRspBytes` carries it over a byte channel (R102). -/
def Response.word (r : Response) : RspWord := r.status.code ++ r.data

/-! ## Sets of states (41_motor_commands.md R200) -/

/-- The idle-like states ILS. -/
def McState.isIls : McState → Bool
  | .idle | .homed | .homeFailRec | .homeFailFatal => true
  | .uninit | .homing | .runOl | .runPdff | .runPdffVis | .runVis | .runPoint => false

/-- The five RUN states. -/
def McState.isRun : McState → Bool
  | .runOl | .runPdff | .runPdffVis | .runVis | .runPoint => true
  | .uninit | .idle | .homing | .homeFailRec | .homeFailFatal | .homed => false

/-- The busy states: HOMING and the RUN states. -/
def McState.isBusy : McState → Bool
  | .homing | .runOl | .runPdff | .runPdffVis | .runVis | .runPoint => true
  | .uninit | .idle | .homeFailRec | .homeFailFatal | .homed => false

/-- The homing phases (R41). -/
def Phase.isHoming : Phase → Bool
  | .hEntry | .hProbeDn | .hBackoff | .hProbeUp | .hCleanDn | .hCleanDnConf | .hCleanUp | .hCleanUpConf | .hMoveOff
  | .hSeek | .hSettle1 | .hSettle2 => true
  | .rest | .rWait | .rSample | .rCommit | .rVSample | .rVCommit => false

/-- The phases of the path loop (44_control_laws.md R305, R306). -/
def Phase.isPathLoop : Phase → Bool
  | .rSample | .rCommit => true
  | .rest | .hEntry | .hProbeDn | .hBackoff | .hProbeUp | .hCleanDn | .hCleanDnConf | .hCleanUp | .hCleanUpConf
  | .hMoveOff | .hSeek | .hSettle1 | .hSettle2 | .rWait | .rVSample | .rVCommit => false

/-- The phases of the vision loop (44_control_laws.md R341, R343). -/
def Phase.isVisLoop : Phase → Bool
  | .rVSample | .rVCommit => true
  | .rest | .hEntry | .hProbeDn | .hBackoff | .hProbeUp | .hCleanDn | .hCleanDnConf | .hCleanUp | .hCleanUpConf
  | .hMoveOff | .hSeek | .hSettle1 | .hSettle2 | .rWait | .rSample | .rCommit => false

/-- Does the state have the phase (R41; 44_control_laws.md R305, R341 for the modes of each loop, R350)? -/
def phaseFits (m : McState) (p : Phase) : Bool :=
  match m with
  | .uninit | .idle | .homeFailRec | .homeFailFatal | .homed => p == .rest
  | .homing => p.isHoming
  | .runOl | .runPdff | .runPoint => p == .rWait || p.isPathLoop
  | .runPdffVis => p == .rWait || p.isPathLoop || p.isVisLoop
  | .runVis => p == .rWait || p.isVisLoop

/-! ## Composite registers (R73, R75) -/

/-- A one-bit field as a bit vector. -/
def bit (b : Bool) : BitVec 1 := BitVec.ofBool b

/-- `ENC_STATUS` (R73). -/
def encStatus (e : Encoder) : Data :=
  (bit e.idxValid ++ bit e.encEn ++ e.lastPin.code ++ bit e.levB ++ bit e.levA).setWidth 64

/-- `ENC_CTRL` (R75). -/
def encCtrl (e : Encoder) : Data := (bit e.idxRstEn ++ bit e.encEn).setWidth 64

/-- `MC_STATUS` (R73). -/
def mcStatus (s : State) : Data := (s.phase.code ++ s.mcState.code).setWidth 64

/-- `MC_FLAGS` (R73). -/
def mcFlags (s : State) : Data :=
  (bit s.setup.kvisSet ++ bit s.flags.latchEn ++ bit s.flags.limitLatch ++ bit s.flags.allDone ++ bit s.flags.visDone
    ++ bit s.flags.visStarted ++ bit s.flags.pathDone ++ bit s.flags.pathStarted ++ bit s.flags.homed).setWidth 64

/-- `MC_OUT` (R73). -/
def mcOut (s : State) : Data := (bit s.dir ++ s.duty).setWidth 64

/-- `MC_CFG` (R75). -/
def mcCfg (c : Setup) : Data := (bit c.visBound ++ bit c.dirNeg).setWidth 64

/-! ## Error flags (R65, 60_exceptions.md R404) -/

/-- Bit 0 of `ERR_FLAGS`, an illegal event word was dropped. -/
def evtIllegalBit : BitVec 2 := 1#2

/-- Bit 1 of `ERR_FLAGS`, a diagnostic sample was dropped. -/
def traceOvfBit : BitVec 2 := 2#2

/-- Set one error flag. -/
def State.setErr (b : BitVec 2) (s : State) : State := { s with errFlags := s.errFlags ||| b }

/-- Write-one-to-clear (45_register_access.md R367). -/
def State.clearErr (x : Data) (s : State) : State := { s with errFlags := s.errFlags &&& ~~~(x.setWidth 2) }

/-! ## Flag updates -/

/-- The flags a RUN command clears when it is accepted (41_motor_commands.md R211). -/
def Flags.clearRun (f : Flags) : Flags :=
  { f with pathStarted := false, pathDone := false, visStarted := false, visDone := false, allDone := false }

/-- The flags a run's end in phase `p` leaves (44_control_laws.md R303). -/
def Flags.endRun (p : Phase) (f : Flags) : Flags :=
  { f with latchEn := false, pathDone := f.pathDone || p.isPathLoop, visDone := f.visDone || p.isVisLoop,
           allDone := true }

end Sys2Proof.Machine
end

