-- ==== Sys2Proof/Machine/Ops.lean ====
section
/-!
DEFINITION. The named operations the rules share: answering a command, the actuator, the history and the estimator, the
ends of a homing and of a run (what the block has in place of an exception: 60_exceptions.md R401, R410), calibration,
the control laws and the trace.
-/

namespace Sys2Proof.Machine

/-- What a meaning answers. -/
abbrev Result := Host.Outcome State Fault Refusal

/-! ## Answers (00_scope.md R22, R23) -/

/-- `s` with a response on the port. -/
def State.withRsp (st : Status) (d : Data) (s : State) : State := { s with rsp := some { status := st, data := d } }

/-- `Respond(status, data)`: the command ends. -/
def respond (st : Status) (d : Data) (s : State) : Result := .next (s.withRsp st d)

/-- `drop`: the operation ends with no state change and no response. -/
def drop (s : State) : Result := .next s

/-! ## Live samples (00_scope.md R21) -/

/-- `PinRead(p)`: the level of a limit-switch pin in this step. -/
def pinRead (p : LimPin) (s : State) : Bool :=
  match p with
  | .lo => s.live.limLo
  | .hi => s.live.limHi

/-- A switch is active, in contact, when its pin reads 0 (42_homing.md R255). -/
def active (p : LimPin) (s : State) : Bool := !pinRead p s

/-! ## Registers of the encoder -/

/-- `COUNT` as an integer. -/
def State.c (s : State) : ℤ := s.enc.count.toInt

/-- `COUNT <- 0`, the history untouched (40_encoder.md R169). -/
def State.zeroCount (s : State) : State := { s with enc := { s.enc with count := 0#32 } }

/-- The debounce key of a pin. -/
def pinKey : QPin → LastPin
  | .a => .a
  | .b => .b

/-- `HistAppend(k, c)` (40_encoder.md R164): the oldest sample leaves when the history is full. -/
def histAppend (n : Nat) (k : Tick) (c : S32) (h : List HistSample) : List HistSample :=
  (if h.length = n then h.drop 1 else h) ++ [{ tick := k, count := c }]

/-- The direction rule (40_encoder.md R163): what an accepted edge of pin `p` with level `l` makes of the count, given
the stored level of the other pin. -/
def edgeCount (p : QPin) (l other : Bool) (c : S32) : S32 :=
  if l && other then
    match p with
    | .a => wrapAdd c 1
    | .b => wrapAdd c (-1)
  else c

/-- An accepted edge (40_encoder.md R161 to R164). -/
def acceptEdge (p : QPin) (l : Bool) (k : Tick) (s : State) : State :=
  let other := match p with
    | .a => s.enc.levB
    | .b => s.enc.levA
  let count := edgeCount p l other s.enc.count
  let enc := match p with
    | .a => { s.enc with lastPin := .a, levA := l, count := count }
    | .b => { s.enc with lastPin := .b, levB := l, count := count }
  { s with enc := enc, mem := { s.mem with hist := histAppend s.cfg.n k count s.mem.hist } }

/-! ## The velocity estimator (40_encoder.md R172) -/

/-- `Σ tick`. -/
def sumX (h : List HistSample) : ℤ := (h.map fun x => (x.tick.toNat : ℤ)).sum

/-- `Σ count`. -/
def sumY (h : List HistSample) : ℤ := (h.map fun x => x.count.toInt).sum

/-- `Σ tick · count`. -/
def sumXY (h : List HistSample) : ℤ := (h.map fun x => (x.tick.toNat : ℤ) * x.count.toInt).sum

/-- `Σ tick · tick`. -/
def sumXX (h : List HistSample) : ℤ := (h.map fun x => (x.tick.toNat : ℤ) * (x.tick.toNat : ℤ)).sum

/-- `den = N·Sxx − Sx·Sx`. -/
def cpsDen (n : Nat) (h : List HistSample) : ℤ := (n : ℤ) * sumXX h - sumX h * sumX h

/-- `num = N·Sxy − Sx·Sy`. -/
def cpsNum (n : Nat) (h : List HistSample) : ℤ := (n : ℤ) * sumXY h - sumX h * sumY h

/-- `CpsValue()` of a snapshot: the velocity in counts per second and the degenerate bit. -/
def cpsValue (n : Nat) (h : List HistSample) : ℚ × Bool :=
  if h.length ≠ n then (0, true)
  else if cpsDen n h = 0 then (0, true)
  else (1000000 * (cpsNum n h : ℚ) / (cpsDen n h : ℚ), false)

/-! ## The actuator (42_homing.md R240, 44_control_laws.md R310) -/

/-- `dirf`, the direction factor (10_state.md R47). -/
def dirf (s : State) : ℤ := if s.setup.dirNeg then -1 else 1

/-- What DriveUp() writes. -/
def upDrive (c : Setup) : Drive := { duty := c.minUp, dir := !c.dirNeg }

/-- What DriveDown() writes. -/
def downDrive (c : Setup) : Drive := { duty := c.minDown, dir := c.dirNeg }

/-- Write the outputs. -/
def State.drive (d : Drive) (s : State) : State := { s with duty := d.duty, dir := d.dir }

/-- `DriveUp()`. -/
def State.driveUp (s : State) : State := s.drive (upDrive s.setup)

/-- `DriveDown()`. -/
def State.driveDown (s : State) : State := s.drive (downDrive s.setup)

/-- `StopMotor()`: `DIR` unchanged. -/
def State.stopMotor (s : State) : State := { s with duty := 0#8 }

/-- `PHASE <- p`. -/
def State.goto (p : Phase) (s : State) : State := { s with phase := p }

/-- `Actuate(w)` (R310). -/
def actuate (w : ℚ) : Drive := { duty := clipDuty (roundAway |w|), dir := decide (0 ≤ w) }

/-! ## Ends of a homing and of a run -/

/-- `HomeFail(1)`: the recoverable failure (42_homing.md R254). -/
def State.homeFailRec (s : State) : State :=
  { s with duty := 0#8, homeResult := .recoverable, mcState := .homeFailRec, phase := .rest }

/-- `HomeFail(2)`: the fatal failure (42_homing.md R254). -/
def State.homeFailFatal (s : State) : State :=
  { s with duty := 0#8, homeResult := .fatal, mcState := .homeFailFatal, phase := .rest }

/-- `RunExit(cause)` (44_control_laws.md R303): the one way a run ends. The done flag is that of the phase in progress. -/
def State.runExit (c : Cause) (s : State) : State :=
  { s with duty := 0#8, pend := none, flags := s.flags.endRun s.phase, runResult := .ended c, mcState := .idle,
           phase := .rest }

/-! ## Calibration (42_homing.md R247) -/

/-- `Calibrate(s)` with `s` the count at the upper confirmation. -/
def calibrate (c : Setup) (span : S32) : Calib :=
  let cpm : ℚ := (span.toInt : ℚ) / val c.limitWidth
  let ww : ℚ := val c.workspaceWidth * cpm
  { span := span, cpm := cpm, wwCount := ww, limitBuffer := ((span.toInt : ℚ) - ww) / 2 }

/-! ## Accepting a run (41_motor_commands.md R211) -/

/-- The preconditions of a RUN command, the first failing test (R211, 60_exceptions.md R405); `none` when all pass. -/
def runRefusal (needsVel needsDist needsVision : Bool) (s : State) : Option Status :=
  if s.mcState.isIls = false then some .errState
  else if needsVel && s.mem.vel.isEmpty then some .errNoSetpoints
  else if needsDist && s.mem.dist.isEmpty then some .errNoSetpoints
  else if s.flags.homed = false then some .errNotHomed
  else if needsVision && !s.setup.kvisSet then some .errNoVgain
  else if needsVision && !s.setup.visBound then some .errNoVbind
  else none

/-- What an accepted RUN command writes (R211). -/
def State.runAccepted (mode : McState) (t : Tick) (s : State) : State :=
  { s with t0 := t, flags := s.flags.clearRun, runResult := .inProgress, pend := none, mcState := mode,
           phase := .rWait }

/-- `RunAccept(mode, T, needs_vel, needs_dist, needs_vision)` (R211). -/
def runAccept (mode : McState) (t : Tick) (needsVel needsDist needsVision : Bool) (s : State) : Result :=
  match runRefusal needsVel needsDist needsVision s with
  | some st => respond st 0#64 s
  | none => respond .ok 0#64 (s.runAccepted mode t)

/-! ## The run loop's shared parts -/

/-- The outcome of the workspace check. -/
inductive WsVerdict where
  | high | low | ok
deriving DecidableEq, Repr

/-- `WsCheck(c, slack_hi)` (44_control_laws.md R304). -/
def wsCheck (slackHi : U32) (s : State) : WsVerdict :=
  if (s.c : ℚ) > s.cal.wwCount + (slackHi.toNat : ℚ) then .high
  else if s.c < -(s.setup.slackLo.toNat : ℤ) then .low
  else .ok

/-- `PosVel(c)` (R320): position and velocity in metres; `none` where `CPM` = 0 (log entry 8). -/
def posVel (s : State) : Option (ℚ × ℚ) :=
  if s.cal.cpm = 0 then none
  else some ((s.c : ℚ) / s.cal.cpm, (cpsValue s.cfg.n s.mem.hist).1 / s.cal.cpm)

/-- Does an iteration at elapsed millisecond `t` capture: the first of the loop, or a later millisecond (R330)? -/
def captureDue (t : Nat) (s : State) : Bool :=
  match s.lastMs with
  | none => true
  | some m => decide (m.toNat < t)

/-- `Capture(t, d, v)` (R330). -/
def State.capture (t : Nat) (d v : ℚ) (s : State) : State :=
  if captureDue t s then
    let s1 := if s.mem.trace.length < s.cfg.traceMax then
        { s with mem := { s.mem with trace := s.mem.trace ++ [{ ms := BitVec.ofNat 32 t, pos := d, vel := v }] } }
      else s.setErr traceOvfBit
    { s1 with lastMs := some (BitVec.ofNat 32 t) }
  else s

/-- `VisEntry(origin)` (R340). -/
def State.visEntry (origin : Tick) (s : State) : State :=
  { s with tv0 := origin, flags := { s.flags with visStarted := true } }

/-- `Handoff(now)` (R344). -/
def State.handoff (now : Tick) (s : State) : State :=
  let s1 := { s with duty := 0#8, pend := none, flags := { s.flags with pathDone := true } }
  (s1.visEntry now).goto .rVSample

/-! ## The control laws -/

/-- `VEL[t]`; read only below `VLEN`, which the completion test of R305 has just shown. -/
def velAt (t : Nat) (s : State) : ℚ := val (s.mem.vel.getD t 0#64)

/-- `DIST[t]`; read only below `DLEN`, likewise. -/
def distAt (t : Nat) (s : State) : ℚ := val (s.mem.dist.getD t 0#64)

/-- `OpenLoop(t)` (R311): the formula as written, with no absolute value (90_conflicts.md C3). -/
def openLoop (t : Nat) (s : State) : Drive :=
  let w := val s.setup.pwmConst * (dirf s : ℚ) * velAt t s
  { duty := clipDuty (roundAway w), dir := decide (0 ≤ w) }

/-- The signed command `u` of the PD-feedforward law (R312). -/
def pdffU (t : Nat) (d v : ℚ) (s : State) : ℚ :=
  val s.setup.kFf * velAt t s + val s.setup.kP * (distAt t s - d) + val s.setup.kD * (velAt t s - v)

/-- `Pdff(t, d, v)` (R312). -/
def pdff (t : Nat) (d v : ℚ) (s : State) : Drive := actuate (pdffU t d v s * (dirf s : ℚ))

/-- `Point(c)` (R313). -/
def point (s : State) : Drive :=
  if s.c < s.setup.pointTarget.toInt then upDrive s.setup else downDrive s.setup

/-- The vision demand in the workspace frame, `val(r) − LIMIT_BUFFER / CPM` (R342). -/
def visDemand (s : State) : ℚ := val s.live.vis - s.cal.limitBuffer / s.cal.cpm

/-- The signed command `u` of the vision law for the error `e` (R342). -/
def visionU (e : ℚ) (s : State) : ℚ := val s.setup.kVis * e + 50 * (sgn e : ℚ)

/-- `VisionLaw(d)` (R342): zero duty for the sentinel, nothing for another demand out of range, else the law. -/
def visionLaw (d : ℚ) (s : State) : Option Drive :=
  if s.live.vis = visSentinel then some { duty := 0#8, dir := s.dir }
  else if visDemand s < 0 ∨ visDemand s > val s.setup.workspaceWidth then none
  else some (actuate (visionU (visDemand s - d) s * (dirf s : ℚ)))

end Sys2Proof.Machine
end

