-- ==== Sys2Proof/Machine/Registers.lean ====
section
/-!
DEFINITION. The register map (10_state.md R75): the 38 mapped registers, their selectors, access classes, read images
(45_register_access.md R361), legal write values (R365, R366) and stores (R362, R367).
-/

namespace Sys2Proof.Machine

/-- The mapped registers, in the order of R75. -/
inductive Reg where
  | encCount | encStatus | encCtrl | encFill | encN | encIdxLog
  | mcStatus | mcFlags | mcOut | homeResult | runResult | errFlags | axisId
  | mcCfg | minUp | minDown | tol | probeCeil | slackHiPath | slackHiVis | slackLo
  | limitWidth | workspaceWidth | kFf | kP | kD | pwmConst | kVis
  | tParam | pointTarget
  | span | cpm | wwCount | limitBuffer | vlen | dlen | traceLen | t0
deriving DecidableEq, Repr

/-- Every mapped register. -/
def allRegs : List Reg :=
  [.encCount, .encStatus, .encCtrl, .encFill, .encN, .encIdxLog,
   .mcStatus, .mcFlags, .mcOut, .homeResult, .runResult, .errFlags, .axisId,
   .mcCfg, .minUp, .minDown, .tol, .probeCeil, .slackHiPath, .slackHiVis, .slackLo,
   .limitWidth, .workspaceWidth, .kFf, .kP, .kD, .pwmConst, .kVis, .tParam, .pointTarget,
   .span, .cpm, .wwCount, .limitBuffer, .vlen, .dlen, .traceLen, .t0]

/-- The `SEL` number of a register (R75). -/
def Reg.sel : Reg → BitVec 8
  | .encCount => 0x00#8
  | .encStatus => 0x01#8
  | .encCtrl => 0x02#8
  | .encFill => 0x03#8
  | .encN => 0x04#8
  | .encIdxLog => 0x05#8
  | .mcStatus => 0x10#8
  | .mcFlags => 0x11#8
  | .mcOut => 0x12#8
  | .homeResult => 0x13#8
  | .runResult => 0x14#8
  | .errFlags => 0x15#8
  | .axisId => 0x16#8
  | .mcCfg => 0x18#8
  | .minUp => 0x19#8
  | .minDown => 0x1A#8
  | .tol => 0x1B#8
  | .probeCeil => 0x1C#8
  | .slackHiPath => 0x1D#8
  | .slackHiVis => 0x1E#8
  | .slackLo => 0x1F#8
  | .limitWidth => 0x20#8
  | .workspaceWidth => 0x21#8
  | .kFf => 0x22#8
  | .kP => 0x23#8
  | .kD => 0x24#8
  | .pwmConst => 0x25#8
  | .kVis => 0x26#8
  | .tParam => 0x28#8
  | .pointTarget => 0x29#8
  | .span => 0x30#8
  | .cpm => 0x31#8
  | .wwCount => 0x32#8
  | .limitBuffer => 0x33#8
  | .vlen => 0x34#8
  | .dlen => 0x35#8
  | .traceLen => 0x36#8
  | .t0 => 0x37#8

/-- The register a `SEL` number maps to; `none` is unmapped (R75). -/
def Reg.ofSel (s : BitVec 8) : Option Reg := allRegs.find? fun r => r.sel == s

/-- The access classes (R75). -/
inductive Access where
  | ro | rw | w1c
deriving DecidableEq, Repr

/-- The access class of a register (R75, 45_register_access.md R364). -/
def Reg.access : Reg → Access
  | .encCount | .encStatus | .encFill | .encN | .encIdxLog | .mcStatus | .mcFlags | .mcOut | .homeResult | .runResult
  | .axisId | .span | .cpm | .wwCount | .limitBuffer | .vlen | .dlen | .traceLen | .t0 => .ro
  | .errFlags => .w1c
  | .encCtrl | .mcCfg | .minUp | .minDown | .tol | .probeCeil | .slackHiPath | .slackHiVis | .slackLo | .limitWidth
  | .workspaceWidth | .kFf | .kP | .kD | .pwmConst | .kVis | .tParam | .pointTarget => .rw

/-- The motor configuration registers, 0x18 to 0x29 (45_register_access.md R363). -/
def Reg.isMotorConfig : Reg → Bool
  | .mcCfg | .minUp | .minDown | .tol | .probeCeil | .slackHiPath | .slackHiVis | .slackLo | .limitWidth
  | .workspaceWidth | .kFf | .kP | .kD | .pwmConst | .kVis | .tParam | .pointTarget => true
  | .encCount | .encStatus | .encCtrl | .encFill | .encN | .encIdxLog | .mcStatus | .mcFlags | .mcOut | .homeResult
  | .runResult | .errFlags | .axisId | .span | .cpm | .wwCount | .limitBuffer | .vlen | .dlen | .traceLen
  | .t0 => false

/-- `ReadImage(s)` (45_register_access.md R361): the 64-bit image by the register's type. -/
def readImage (r : Reg) (s : State) : Data :=
  match r with
  | .encCount => s.enc.count.signExtend 64
  | .encStatus => Sys2Proof.Machine.encStatus s.enc
  | .encCtrl => Sys2Proof.Machine.encCtrl s.enc
  | .encFill => BitVec.ofNat 64 s.mem.hist.length
  | .encN => BitVec.ofNat 64 s.cfg.n
  | .encIdxLog => s.enc.idxLog.signExtend 64
  | .mcStatus => Sys2Proof.Machine.mcStatus s
  | .mcFlags => Sys2Proof.Machine.mcFlags s
  | .mcOut => Sys2Proof.Machine.mcOut s
  | .homeResult => s.homeResult.code.setWidth 64
  | .runResult => s.runResult.code.setWidth 64
  | .errFlags => s.errFlags.setWidth 64
  | .axisId => s.cfg.axis.id.setWidth 64
  | .mcCfg => Sys2Proof.Machine.mcCfg s.setup
  | .minUp => s.setup.minUp.setWidth 64
  | .minDown => s.setup.minDown.setWidth 64
  | .tol => s.setup.tol.setWidth 64
  | .probeCeil => s.setup.probeCeil.setWidth 64
  | .slackHiPath => s.setup.slackHiPath.setWidth 64
  | .slackHiVis => s.setup.slackHiVis.setWidth 64
  | .slackLo => s.setup.slackLo.setWidth 64
  | .limitWidth => s.setup.limitWidth
  | .workspaceWidth => s.setup.workspaceWidth
  | .kFf => s.setup.kFf
  | .kP => s.setup.kP
  | .kD => s.setup.kD
  | .pwmConst => s.setup.pwmConst
  | .kVis => s.setup.kVis
  | .tParam => s.setup.tParam.setWidth 64
  | .pointTarget => s.setup.pointTarget.signExtend 64
  | .span => s.cal.span.signExtend 64
  | .cpm => qImage s.cal.cpm
  | .wwCount => qImage s.cal.wwCount
  | .limitBuffer => qImage s.cal.limitBuffer
  | .vlen => BitVec.ofNat 64 s.mem.vel.length
  | .dlen => BitVec.ofNat 64 s.mem.dist.length
  | .traceLen => BitVec.ofNat 64 s.mem.trace.length
  | .t0 => s.t0.setWidth 64

/-- Is `x` a legal value of the register (R365, R366)? `val` keeps the order of the s64 patterns, so the widths are
compared as the s64 integers they are. A read-only register has no legal write value (R364). -/
def legalValue (r : Reg) (x : Data) (s : State) : Bool :=
  match r with
  | .encCtrl | .mcCfg | .errFlags => fitsBits2 x
  | .minUp | .minDown => fitsU8 x
  | .tol | .probeCeil | .slackHiPath | .slackHiVis | .slackLo | .tParam => fitsU32 x
  | .pointTarget => fitsS32 x
  | .limitWidth => decide (0 ≤ x.toInt) && decide (s.setup.workspaceWidth.toInt ≤ x.toInt)
  | .workspaceWidth => decide (0 ≤ x.toInt) && decide (x.toInt ≤ s.setup.limitWidth.toInt)
  | .kFf | .kP | .kD | .pwmConst | .kVis => true
  | .encCount | .encStatus | .encFill | .encN | .encIdxLog | .mcStatus | .mcFlags | .mcOut | .homeResult | .runResult
  | .axisId | .span | .cpm | .wwCount | .limitBuffer | .vlen | .dlen | .traceLen | .t0 => false

/-- The configuration registers after a legal value is stored in one of them (R362), with the side effect of `K_VIS`
(R367 (a)). -/
def storeSetup (r : Reg) (x : Data) (c : Setup) : Setup :=
  match r with
  | .mcCfg => { c with dirNeg := x.getLsbD 0, visBound := x.getLsbD 1 }
  | .minUp => { c with minUp := toU8 x }
  | .minDown => { c with minDown := toU8 x }
  | .tol => { c with tol := toU32 x }
  | .probeCeil => { c with probeCeil := toU32 x }
  | .slackHiPath => { c with slackHiPath := toU32 x }
  | .slackHiVis => { c with slackHiVis := toU32 x }
  | .slackLo => { c with slackLo := toU32 x }
  | .limitWidth => { c with limitWidth := x }
  | .workspaceWidth => { c with workspaceWidth := x }
  | .kFf => { c with kFf := x }
  | .kP => { c with kP := x }
  | .kD => { c with kD := x }
  | .pwmConst => { c with pwmConst := x }
  | .kVis => { c with kVis := x, kvisSet := true }
  | .tParam => { c with tParam := toU32 x }
  | .pointTarget => { c with pointTarget := toU32 x }
  | .encCount | .encStatus | .encCtrl | .encFill | .encN | .encIdxLog | .mcStatus | .mcFlags | .mcOut | .homeResult
  | .runResult | .errFlags | .axisId | .span | .cpm | .wwCount | .limitBuffer | .vlen | .dlen | .traceLen | .t0 => c

/-- Store a legal value (R362) with the side effects of R367: `ERR_FLAGS` is write-one-to-clear, `ENC_CTRL` holds
`ENC_EN` and `IDX_RST_EN`. -/
def storeReg (r : Reg) (x : Data) (s : State) : State :=
  match r with
  | .encCtrl => { s with enc := { s.enc with encEn := x.getLsbD 0, idxRstEn := x.getLsbD 1 } }
  | .errFlags => s.clearErr x
  | .mcCfg | .minUp | .minDown | .tol | .probeCeil | .slackHiPath | .slackHiVis | .slackLo | .limitWidth
  | .workspaceWidth | .kFf | .kP | .kD | .pwmConst | .kVis | .tParam | .pointTarget =>
    { s with setup := storeSetup r x s.setup }
  | .encCount | .encStatus | .encFill | .encN | .encIdxLog | .mcStatus | .mcFlags | .mcOut | .homeResult | .runResult
  | .axisId | .span | .cpm | .wwCount | .limitBuffer | .vlen | .dlen | .traceLen | .t0 => s

/-- Why a write of a mapped register is refused, the first failing test (R362, 60_exceptions.md R405). -/
def writeRefusal (r : Reg) (x : Data) (s : State) : Option Status :=
  if r.access = .ro then some .errRo
  else if r.isMotorConfig && s.mcState.isBusy then some .errBusy
  else if legalValue r x s = false then some .errRange
  else none

/-! ## Setpoint memories (R370 to R372) -/

/-- The words of a setpoint memory. -/
def spWords (m : SpMem) (s : State) : List Fixed :=
  match m with
  | .vel => s.mem.vel
  | .dist => s.mem.dist

/-- Replace the words of a setpoint memory. -/
def State.setSp (m : SpMem) (ws : List Fixed) (s : State) : State :=
  match m with
  | .vel => { s with mem := { s.mem with vel := ws } }
  | .dist => { s with mem := { s.mem with dist := ws } }

end Sys2Proof.Machine
end

