-- ==== Sys2Proof/Machine/Access.lean ====
section
/-!
DEFINITION. Register, setpoint and trace access (45_register_access.md).
-/

namespace Sys2Proof.Machine

/-- REG_RD (R360). -/
def execRegRd (sel : BitVec 8) (s : State) : Result :=
  match Reg.ofSel sel with
  | none => respond .errUnmapped 0#64 s
  | some r => respond .ok (readImage r s) s

/-- REG_WR (R362). -/
def execRegWr (sel : BitVec 8) (x : Data) (s : State) : Result :=
  match Reg.ofSel sel with
  | none => respond .errUnmapped 0#64 s
  | some r =>
    match writeRefusal r x s with
    | some st => respond st 0#64 s
    | none => respond .ok 0#64 (storeReg r x s)

/-- SP_CLR (R370). -/
def execSpClr (m : SpMem) (s : State) : Result :=
  if s.mcState.isBusy then respond .errBusy 0#64 s
  else respond .ok 0#64 (s.setSp m [])

/-- SP_PUSH (R371): answers the new length. -/
def execSpPush (m : SpMem) (x : Fixed) (s : State) : Result :=
  if s.mcState.isBusy then respond .errBusy 0#64 s
  else if (spWords m s).length = s.cfg.spMax then respond .errFull 0#64 s
  else respond .ok (BitVec.ofNat 64 ((spWords m s).length + 1)) (s.setSp m (spWords m s ++ [x]))

/-- SP_RD (R372). -/
def execSpRd (m : SpMem) (i : Nat) (s : State) : Result :=
  match (spWords m s)[i]? with
  | none => respond .errIndex 0#64 s
  | some x => respond .ok x s

/-- TR_RD (R373). -/
def execTrRd (f : TraceField) (i : Nat) (s : State) : Result :=
  match s.mem.trace[i]? with
  | none => respond .errIndex 0#64 s
  | some x =>
    match f with
    | .ms => respond .ok (x.ms.setWidth 64) s
    | .pos => respond .ok (qImage x.pos) s
    | .vel => respond .ok (qImage x.vel) s

end Sys2Proof.Machine
end

