-- ==== Sys2Proof/Machine/Encoder.lean ====
section
/-!
DEFINITION. The operations of the encoder unit (40_encoder.md).
-/

namespace Sys2Proof.Machine

/-- ENC_EDGE (R160): dropped while disabled (R165) or on the pin of the last accepted edge (R161). -/
def execEncEdge (p : QPin) (l : Bool) (k : Tick) (s : State) : Result :=
  if s.enc.encEn = false then drop s
  else if s.enc.lastPin = pinKey p then drop s
  else .next (acceptEdge p l k s)

/-- IDX_EDGE (R168): a rising edge, with the encoder and the option on, logs the count and zeroes it. Its tick `k` is
not used. -/
def execIdxEdge (l : Bool) (_k : Tick) (s : State) : Result :=
  if s.enc.encEn = false then drop s
  else if l = false then drop s
  else if s.enc.idxRstEn = false then drop s
  else .next { s with enc := { s.enc with idxLog := s.enc.count, idxValid := true, count := 0#32 } }

/-- ENC_RESET (R169). -/
def execEncReset (s : State) : Result := respond .ok 0#64 s.zeroCount

/-- GET_COUNT (R170). -/
def execGetCount (s : State) : Result := respond .ok (s.enc.count.signExtend 64) s

/-- GET_CPS (R171). -/
def execGetCps (s : State) : Result :=
  if (cpsValue s.cfg.n s.mem.hist).2 then respond .okDegenerate 0#64 s
  else respond .ok (qImage (cpsValue s.cfg.n s.mem.hist).1) s

/-- HIST_RD (R173). -/
def execHistRd (f : HistField) (i : Nat) (s : State) : Result :=
  match s.mem.hist[i]? with
  | none => respond .errIndex 0#64 s
  | some x =>
    match f with
    | .tick => respond .ok (x.tick.setWidth 64) s
    | .count => respond .ok (x.count.signExtend 64) s

end Sys2Proof.Machine
end

