-- ==== Sys2Proof/Machine/Limit.lean ====
section
/-!
DEFINITION. The limit-switch latch (43_limit_latch.md).
-/

namespace Sys2Proof.Machine

/-- LIM_EDGE (R280): a falling edge that the re-read of the pin confirms zeroes the duty and sets the sticky latch. -/
def execLimEdge (p : LimPin) (l : Bool) (s : State) : Result :=
  if s.flags.latchEn = false then drop s
  else if l then drop s
  else if pinRead p s then drop s
  else .next { s with duty := 0#8, flags := { s.flags with limitLatch := true } }

/-- LATCH_ACT (R281). -/
def execLatchAct (s : State) : Result :=
  if s.mcState = .uninit then respond .errState 0#64 s
  else respond .ok 0#64 { s with flags := { s.flags with latchEn := true } }

/-- LATCH_DEACT (R282): the latch itself stays. -/
def execLatchDeact (s : State) : Result :=
  if s.mcState = .uninit then respond .errState 0#64 s
  else respond .ok 0#64 { s with flags := { s.flags with latchEn := false } }

/-- LATCH_RESET (R283): with reset, the one thing that clears the latch. -/
def execLatchReset (s : State) : Result :=
  if s.mcState = .uninit then respond .errState 0#64 s
  else respond .ok 0#64 { s with flags := { s.flags with limitLatch := false } }

end Sys2Proof.Machine
end

