-- ==== Sys2Proof/Machine/Motor.lean ====
section
/-!
DEFINITION. The Motor Controller's commands (41_motor_commands.md).
-/

namespace Sys2Proof.Machine

/-- MC_INIT (R201). -/
def execMcInit (s : State) : Result :=
  if s.mcState ≠ .uninit then respond .errState 0#64 s
  else respond .ok 0#64 { s with mcState := .idle, phase := .rest }

/-- HOME (R210): homing has started; its outcome comes in `HOME_RESULT`. -/
def execHome (s : State) : Result :=
  if s.mcState.isIls = false then respond .errState 0#64 s
  else respond .ok 0#64
    { s with flags := { s.flags with homed := false }, homeResult := .inProgress, mcState := .homing,
             phase := .hEntry }

/-- RUN_OL (R212). -/
def execRunOl (t : Tick) (s : State) : Result := runAccept .runOl t true false false s

/-- RUN_PDFF (R213). -/
def execRunPdff (t : Tick) (s : State) : Result := runAccept .runPdff t true true false s

/-- RUN_PDFF_VIS (R214). -/
def execRunPdffVis (t : Tick) (s : State) : Result := runAccept .runPdffVis t true true true s

/-- RUN_VIS (R215). -/
def execRunVis (t : Tick) (s : State) : Result := runAccept .runVis t false false true s

/-- RUN_POINT (R216). -/
def execRunPoint (t : Tick) (s : State) : Result := runAccept .runPoint t false false false s

/-- What STOP does in a state other than UNINIT (R220). -/
def State.stopped (s : State) : State :=
  match s.mcState with
  | .homing => { s with duty := 0#8, homeResult := .stopped, mcState := .idle, phase := .rest }
  | .runOl | .runPdff | .runPdffVis | .runVis | .runPoint => s.runExit .stopped
  | .uninit | .idle | .homeFailRec | .homeFailFatal | .homed => s.stopMotor

/-- STOP (R220). -/
def execStop (s : State) : Result :=
  if s.mcState = .uninit then respond .errState 0#64 s
  else respond .ok 0#64 s.stopped

/-- CLR_DONE (R221): accepted in every state. -/
def execClrDone (s : State) : Result :=
  respond .ok 0#64 { s with flags := { s.flags with allDone := false } }

end Sys2Proof.Machine
end

