-- ==== Sys2Proof/Machine/Dispatch.lean ====
section
/-! DEFINITION. One arm for each constructor of Instr. -/

namespace Sys2Proof.Machine

def exec (i : Instr) (s : State) : Host.Outcome State Fault Refusal :=
  match i with
  | .encEdge p l k => Sys2Proof.Machine.execEncEdge p l k s
  | .idxEdge l k => Sys2Proof.Machine.execIdxEdge l k s
  | .limEdge p l => Sys2Proof.Machine.execLimEdge p l s
  | .encReset => Sys2Proof.Machine.execEncReset s
  | .getCount => Sys2Proof.Machine.execGetCount s
  | .getCps => Sys2Proof.Machine.execGetCps s
  | .histRd f k => Sys2Proof.Machine.execHistRd f k s
  | .regRd r => Sys2Proof.Machine.execRegRd r s
  | .regWr r x => Sys2Proof.Machine.execRegWr r x s
  | .spClr m => Sys2Proof.Machine.execSpClr m s
  | .spPush m x => Sys2Proof.Machine.execSpPush m x s
  | .spRd m k => Sys2Proof.Machine.execSpRd m k s
  | .trRd f k => Sys2Proof.Machine.execTrRd f k s
  | .mcInit => Sys2Proof.Machine.execMcInit s
  | .latchAct => Sys2Proof.Machine.execLatchAct s
  | .latchDeact => Sys2Proof.Machine.execLatchDeact s
  | .latchReset => Sys2Proof.Machine.execLatchReset s
  | .home => Sys2Proof.Machine.execHome s
  | .runOl t => Sys2Proof.Machine.execRunOl t s
  | .runPdff t => Sys2Proof.Machine.execRunPdff t s
  | .runPdffVis t => Sys2Proof.Machine.execRunPdffVis t s
  | .runVis t => Sys2Proof.Machine.execRunVis t s
  | .runPoint t => Sys2Proof.Machine.execRunPoint t s
  | .stop => Sys2Proof.Machine.execStop s
  | .clrDone => Sys2Proof.Machine.execClrDone s

end Sys2Proof.Machine
end

