-- ==== Sys2Proof/Machine/Homing.lean ====
section
/-!
DEFINITION. The homing sequencer, one definition for each phase (42_homing.md R241 to R253). Each is one atomic step;
`s.c` is the count and `active p s` says that switch `p` reads 0 in this step (R255).
-/

namespace Sys2Proof.Machine

/-- The tolerance `TOL` as an integer. -/
def tolZ (s : State) : ℤ := (s.setup.tol.toNat : ℤ)

/-- The ceiling `PROBE_CEIL` as an integer. -/
def ceilZ (s : State) : ℤ := (s.setup.probeCeil.toNat : ℤ)

/-- `e = c − LIMIT_BUFFER` (R251). -/
def seekError (s : State) : ℚ := (s.c : ℚ) - s.cal.limitBuffer

/-- `|e| ≤ TOL` (R251 to R253). -/
def seekInside (s : State) : Bool := decide (|seekError s| ≤ (s.setup.tol.toNat : ℚ))

/-- The fatal conditions of H_ENTRY (R241); the widths are compared as the s64 integers whose order `val` keeps. -/
def entryFatal (s : State) : Bool :=
  decide (s.setup.workspaceWidth.toInt > s.setup.limitWidth.toInt) || decide (s.setup.limitWidth.toInt ≤ 0)
    || (active .lo s && active .hi s)

/-- H_ENTRY (R241). -/
def hEntryStep (s : State) : State :=
  if entryFatal s then s.homeFailFatal
  else ({ s.zeroCount with start := 0#32 } : State).driveDown.goto .hProbeDn

/-- H_PROBE_DN (R242): contact before the ceiling. -/
def hProbeDnStep (s : State) : State :=
  if active .lo s || active .hi s then s.goto .hBackoff
  else if s.start.toInt - s.c ≥ ceilZ s then s.driveUp.goto .hProbeUp
  else s.driveDown

/-- H_PROBE_UP (R243). -/
def hProbeUpStep (s : State) : State :=
  if active .lo s || active .hi s then s.goto .hBackoff
  else if s.c - s.start.toInt ≥ ceilZ s then s.driveDown.goto .hCleanDn
  else s.driveUp

/-- H_BACKOFF (R244). -/
def hBackoffStep (s : State) : State :=
  if |s.c - s.start.toInt| ≤ tolZ s then s.homeFailRec
  else if s.c < s.start.toInt then s.driveUp
  else s.driveDown

/-- H_CLEAN_DN (R245). -/
def hCleanDnStep (s : State) : State :=
  if active .lo s then s.goto .hCleanDnConf else s.driveDown

/-- H_CLEAN_DN_CONF (R246). -/
def hCleanDnConfStep (s : State) : State :=
  if active .lo s then s.stopMotor.zeroCount.goto .hCleanUp else s.driveDown.goto .hCleanDn

/-- H_CLEAN_UP (R248). -/
def hCleanUpStep (s : State) : State :=
  if active .hi s then s.goto .hCleanUpConf else s.driveUp

/-- H_CLEAN_UP_CONF (R249), with the calibration of R247. -/
def hCleanUpConfStep (s : State) : State :=
  if active .hi s then
    if s.c ≤ 0 then s.stopMotor.homeFailFatal
    else ({ s.stopMotor with cal := calibrate s.setup s.enc.count } : State).goto .hMoveOff
  else s.driveUp.goto .hCleanUp

/-- H_MOVE_OFF (R250). -/
def hMoveOffStep (s : State) : State :=
  if active .hi s then s.driveDown else s.goto .hSeek

/-- H_SEEK (R251). -/
def hSeekStep (s : State) : State :=
  if seekInside s then s.stopMotor.goto .hSettle1
  else if seekError s > 0 then s.driveDown
  else s.driveUp

/-- H_SETTLE1 (R252). -/
def hSettle1Step (s : State) : State :=
  if seekInside s then s.goto .hSettle2 else s.goto .hSeek

/-- The end of a successful homing (R253). -/
def State.homingDone (s : State) : State :=
  { s.stopMotor.zeroCount with flags := { s.flags with homed := true }, homeResult := .success, mcState := .homed,
                               phase := .rest }

/-- H_SETTLE2 (R253). -/
def hSettle2Step (s : State) : State :=
  if seekInside s then s.homingDone else s.goto .hSeek

end Sys2Proof.Machine
end

