-- ==== Sys2Proof/Machine/Run.lean ====
section
/-!
DEFINITION. The run sequencer, one definition for each phase (44_control_laws.md R301, R305, R306, R341, R343).
-/

namespace Sys2Proof.Machine

/-- The loop entry of R301: latching on, the trace empty. -/
def State.loopEntry (s : State) : State :=
  { s with flags := { s.flags with latchEn := true }, mem := { s.mem with trace := [] }, lastMs := none }

/-- R_WAIT (R301): nothing while the start tick is ahead. -/
def rWaitStep (s : State) : State :=
  if tickReached s.live.tick s.t0 = false then s
  else if s.mcState = .runVis then (s.loopEntry.visEntry s.t0).goto .rVSample
  else ({ s.loopEntry with flags := { s.loopEntry.flags with pathStarted := true } } : State).goto .rSample

/-- Elapsed milliseconds since the start tick, in this step (R302). -/
def runMs (s : State) : Nat := elapsedMs s.live.tick s.t0

/-- Elapsed milliseconds of the vision phase, in this step (R341). -/
def visMs (s : State) : Nat := elapsedMs s.live.tick s.tv0

/-- `VLEN`. -/
def State.vlen (s : State) : Nat := s.mem.vel.length

/-- `DLEN`. -/
def State.dlen (s : State) : Nat := s.mem.dist.length

/-- Is the point target reached: `|c − POINT_TARGET| ≤ TOL` (R305, R313)? -/
def targetReached (s : State) : Bool := decide (|s.c - s.setup.pointTarget.toInt| ≤ (s.setup.tol.toNat : ℤ))

/-- The law of an iteration of the path loop, by mode (R305); RUN_VIS has no path loop. -/
def pathLaw (t : Nat) (d v : ℚ) (s : State) : Option Drive :=
  match s.mcState with
  | .runOl => some (openLoop t s)
  | .runPdff | .runPdffVis => some (pdff t d v s)
  | .runPoint => some (point s)
  | .uninit | .idle | .homing | .homeFailRec | .homeFailFatal | .homed | .runVis => none

/-- The computing part of R_SAMPLE (R305): position and velocity, the capture, the law's result in `PEND`. -/
def pathIterate (s : State) : Result :=
  match posVel s with
  | none => .fault .cpmZero
  | some (d, v) =>
    .next { s.capture (runMs s) d v with pend := pathLaw (runMs s) d v s, phase := .rCommit }

/-- R_SAMPLE (R305): latch, then the end condition, then the workspace, then the law. -/
def rSampleStep (s : State) : Result :=
  if s.flags.limitLatch then .next (s.runExit .abortLatch)
  else if s.mcState = .runPoint ∧ targetReached s = true then .next (s.runExit .reached)
  else if s.mcState = .runOl ∧ s.vlen ≤ runMs s then .next (s.runExit .complete)
  else if s.mcState = .runPdff ∧ min s.vlen s.dlen ≤ runMs s then .next (s.runExit .complete)
  else if s.mcState = .runPdffVis ∧ min s.vlen s.dlen ≤ runMs s then .next (s.handoff s.live.tick)
  else
    match wsCheck s.setup.slackHiPath s with
    | .high => .next (s.runExit .abortWsHigh)
    | .low => .next (s.runExit .abortWsLow)
    | .ok => pathIterate s

/-- The actuator write of an iteration: `PEND` to the outputs (R306, R343). -/
def State.commit (s : State) : State :=
  match s.pend with
  | some d => { s.drive d with pend := none }
  | none => s

/-- R_COMMIT (R306): it tests nothing, not even the latch (20_memory.md R114). -/
def rCommitStep (s : State) : State := s.commit.goto .rSample

/-- The computing part of R_VSAMPLE (R341). -/
def visIterate (s : State) : Result :=
  match posVel s with
  | none => .fault .cpmZero
  | some (d, v) => .next { s.capture (runMs s) d v with pend := visionLaw d s, phase := .rVCommit }

/-- R_VSAMPLE (R341). -/
def rVSampleStep (s : State) : Result :=
  if s.flags.limitLatch then .next (s.runExit .abortLatch)
  else if s.setup.tParam.toNat ≤ visMs s then .next (s.runExit .complete)
  else
    match wsCheck s.setup.slackHiVis s with
    | .high => .next (s.runExit .abortWsHigh)
    | .low => .next (s.runExit .abortWsLow)
    | .ok => visIterate s

/-- R_VCOMMIT (R343). -/
def rVCommitStep (s : State) : State := s.commit.goto .rVSample

end Sys2Proof.Machine
end

