-- ==== Sys2Proof/Machine/Sequencer.lean ====
section
/-!
DEFINITION. One step of the sequencer (20_memory.md R110, 42_homing.md R255, 44_control_laws.md R300), and what the block
does with an illegal word (30_encoding.md R140, R141).
-/

namespace Sys2Proof.Machine

/-- The step of the phase that `PHASE` holds; `rest` is no phase of a busy state. -/
def phaseStep (s : State) : Result :=
  match s.phase with
  | .rest => .fault .badPhase
  | .hEntry => .next (hEntryStep s)
  | .hProbeDn => .next (hProbeDnStep s)
  | .hBackoff => .next (hBackoffStep s)
  | .hProbeUp => .next (hProbeUpStep s)
  | .hCleanDn => .next (hCleanDnStep s)
  | .hCleanDnConf => .next (hCleanDnConfStep s)
  | .hCleanUp => .next (hCleanUpStep s)
  | .hCleanUpConf => .next (hCleanUpConfStep s)
  | .hMoveOff => .next (hMoveOffStep s)
  | .hSeek => .next (hSeekStep s)
  | .hSettle1 => .next (hSettle1Step s)
  | .hSettle2 => .next (hSettle2Step s)
  | .rWait => .next (rWaitStep s)
  | .rSample => rSampleStep s
  | .rCommit => .next (rCommitStep s)
  | .rVSample => rVSampleStep s
  | .rVCommit => .next (rVCommitStep s)

/-- A turn of the sequencer: exactly one step while busy, none otherwise (R110).
DESIGN CHOICE, safe: a turn it cannot use leaves the state as it is; log entry 6. -/
def sequencerStep (s : State) : Result :=
  if s.mcState.isBusy = false then .next s
  else if phaseFits s.mcState s.phase = false then .fault .badPhase
  else phaseStep s

/-- An illegal command answers ERR_ILLEGAL and changes nothing (R140). -/
def illegalCommand (s : State) : Result := respond .errIllegal 0#64 s

/-- An illegal event is dropped with `EVT_ILLEGAL` set (R141). -/
def illegalEvent (s : State) : Result := .next (s.setErr evtIllegalBit)

/-- Reset (70_reset_and_hazards.md R440): every piece of state at its reset value. The parameters are not state, and the
stimuli to come are the environment's: both stay. -/
def State.toReset (s : State) : State :=
  { State.resetOf s.cfg with live := s.live, script := s.script, turnNo := s.turnNo }

end Sys2Proof.Machine
end

