-- ==== Sys2Proof/Machine/Step.lean ====
section
/-!
DEFINITION. One step of the block: the next stimulus says which agent steps and what it samples (20_memory.md R104, R110).
-/

namespace Sys2Proof.Machine

/-- The stimulus of the next step: the nearest of `script`, or a free one (log entries 2, 3). -/
def nextStimulus (s : State) : Stimulus :=
  match s.script with
  | [] => Config.freeStimulus s.turnNo
  | x :: _ => x

/-- The state in which the agent of the stimulus acts: the stimulus taken, its samples presented, the response port
clear (log entry 5). -/
def State.presented (s : State) : State :=
  match s.script with
  | [] => { s with live := (Config.freeStimulus s.turnNo).live, rsp := none, turnNo := s.turnNo + 1 }
  | x :: rest => { s with live := x.live, rsp := none, script := rest }

/-- The step of the agent whose turn it is. -/
def takeTurn (t : Turn) (s : State) : Result :=
  match t with
  | .reset => .next s.toReset
  | .event w =>
    match decode .evt w with
    | .ok i => exec i s
    | .illegal _ => illegalEvent s
  | .command w =>
    match decode .cmd w with
    | .ok i => exec i s
    | .illegal _ => illegalCommand s
  | .sequencer => sequencerStep s

/-- One atomic step. -/
def step (s : State) : Host.Outcome State Fault Refusal := takeTurn (nextStimulus s).turn s.presented

/-- The turn in which a word arrives on a port (30_encoding.md R130). -/
def portTurn (p : Port) (w : OpWord) : Turn :=
  match p with
  | .evt => .event w
  | .cmd => .command w

/-- `s` with the word of an opcode-table row arriving next, on the port of its opcode, and the samples as they are
(log entries 2, 11). -/
def State.withFetchWord (s : State) (nbits w : Nat) : State :=
  { s with script := { turn := portTurn (portOfWord (tableWord nbits w)) (tableWord nbits w), live := s.live }
                       :: s.script }

end Sys2Proof.Machine
end

