-- ==== Sys2Proof/Machine/Assembler.lean ====
section
/-!
DEFINITION. The assembler's notation for an operation (30_encoding.md R145) and the expansions of its pseudo-operations
(R146). Neither is part of a step.
-/

namespace Sys2Proof.Machine

/-! ## Notation (R145) -/

/-- The mnemonic of an operation (R135). -/
def mnemonic : Instr → String
  | .encEdge _ _ _ => "ENC_EDGE"
  | .idxEdge _ _ => "IDX_EDGE"
  | .limEdge _ _ => "LIM_EDGE"
  | .encReset => "ENC_RESET"
  | .getCount => "GET_COUNT"
  | .getCps => "GET_CPS"
  | .histRd _ _ => "HIST_RD"
  | .regRd _ => "REG_RD"
  | .regWr _ _ => "REG_WR"
  | .spClr _ => "SP_CLR"
  | .spPush _ _ => "SP_PUSH"
  | .spRd _ _ => "SP_RD"
  | .trRd _ _ => "TR_RD"
  | .mcInit => "MC_INIT"
  | .latchAct => "LATCH_ACT"
  | .latchDeact => "LATCH_DEACT"
  | .latchReset => "LATCH_RESET"
  | .home => "HOME"
  | .runOl _ => "RUN_OL"
  | .runPdff _ => "RUN_PDFF"
  | .runPdffVis _ => "RUN_PDFF_VIS"
  | .runVis _ => "RUN_VIS"
  | .runPoint _ => "RUN_POINT"
  | .stop => "STOP"
  | .clrDone => "CLR_DONE"

/-- The name of a register (10_state.md R75). -/
def regName : Reg → String
  | .encCount => "ENC_COUNT"
  | .encStatus => "ENC_STATUS"
  | .encCtrl => "ENC_CTRL"
  | .encFill => "ENC_FILL"
  | .encN => "ENC_N"
  | .encIdxLog => "ENC_IDX_LOG"
  | .mcStatus => "MC_STATUS"
  | .mcFlags => "MC_FLAGS"
  | .mcOut => "MC_OUT"
  | .homeResult => "HOME_RESULT"
  | .runResult => "RUN_RESULT"
  | .errFlags => "ERR_FLAGS"
  | .axisId => "AXIS_ID"
  | .mcCfg => "MC_CFG"
  | .minUp => "MIN_UP"
  | .minDown => "MIN_DOWN"
  | .tol => "TOL"
  | .probeCeil => "PROBE_CEIL"
  | .slackHiPath => "SLACK_HI_PATH"
  | .slackHiVis => "SLACK_HI_VIS"
  | .slackLo => "SLACK_LO"
  | .limitWidth => "LIMIT_WIDTH"
  | .workspaceWidth => "WORKSPACE_WIDTH"
  | .kFf => "K_FF"
  | .kP => "K_P"
  | .kD => "K_D"
  | .pwmConst => "PWM_CONST"
  | .kVis => "K_VIS"
  | .tParam => "T_PARAM"
  | .pointTarget => "POINT_TARGET"
  | .span => "SPAN"
  | .cpm => "CPM"
  | .wwCount => "WW_COUNT"
  | .limitBuffer => "LIMIT_BUFFER"
  | .vlen => "VLEN"
  | .dlen => "DLEN"
  | .traceLen => "TRACE_LEN"
  | .t0 => "T0"

/-- A number as R145 writes it in hexadecimal. -/
def hexText (n : Nat) : String := "0x" ++ String.ofList (Nat.toDigits 16 n)

/-- A register operand: its name, or its number where it is unmapped. -/
def selText (s : BitVec 8) : String :=
  match Reg.ofSel s with
  | some r => regName r
  | none => hexText s.toNat

/-- A level operand. -/
def levelText (l : Bool) : String := if l then "1" else "0"

/-- A quadrature pin operand. -/
def qpinText : QPin → String
  | .a => "A"
  | .b => "B"

/-- A limit pin operand. -/
def limPinText : LimPin → String
  | .lo => "LO"
  | .hi => "HI"

/-- A setpoint memory operand. -/
def spMemText : SpMem → String
  | .vel => "VEL"
  | .dist => "DIST"

/-- A history field operand. -/
def histFieldText : HistField → String
  | .tick => "tick"
  | .count => "count"

/-- A trace field operand. -/
def traceFieldText : TraceField → String
  | .ms => "ms"
  | .pos => "pos"
  | .vel => "vel"

/-- The operands in the order pin or selector, level, data (R145); a written value is given as a raw word. -/
def operandTexts : Instr → List String
  | .encEdge p l k => [qpinText p, levelText l, toString k.toNat]
  | .idxEdge l k => [levelText l, toString k.toNat]
  | .limEdge p l => [limPinText p, levelText l]
  | .histRd f i => [histFieldText f, toString i]
  | .regRd r => [selText r]
  | .regWr r x => [selText r, hexText x.toNat]
  | .spClr m => [spMemText m]
  | .spPush m x => [spMemText m, hexText x.toNat]
  | .spRd m i => [spMemText m, toString i]
  | .trRd f i => [traceFieldText f, toString i]
  | .runOl t | .runPdff t | .runPdffVis t | .runVis t | .runPoint t => [toString t.toNat]
  | .encReset | .getCount | .getCps | .mcInit | .latchAct | .latchDeact | .latchReset | .home | .stop | .clrDone => []

/-- One operation as a line of assembly text (R145). -/
def asmText (i : Instr) : String :=
  match operandTexts i with
  | [] => mnemonic i
  | ts => mnemonic i ++ " " ++ String.intercalate ", " ts

/-! ## Pseudo-operations (R146) -/

/-- `SET r, v`. -/
def pseudoSet (r : Reg) (v : Data) : List Instr := [.regWr r.sel v]

/-- `GET r`. -/
def pseudoGet (r : Reg) : List Instr := [.regRd r.sel]

/-- `EDGE_A l, t`. -/
def pseudoEdgeA (l : Bool) (t : Tick) : List Instr := [.encEdge .a l t]

/-- `EDGE_B l, t`. -/
def pseudoEdgeB (l : Bool) (t : Tick) : List Instr := [.encEdge .b l t]

/-- `ENC_ENABLE`, given `IDX_RST_EN` as last written. -/
def pseudoEncEnable (idxRstEn : Bool) : List Instr :=
  [.regWr Reg.encCtrl.sel (if idxRstEn then 3#64 else 1#64)]

/-- `ENC_DISABLE`, given `IDX_RST_EN` as last written. -/
def pseudoEncDisable (idxRstEn : Bool) : List Instr :=
  [.regWr Reg.encCtrl.sel (if idxRstEn then 2#64 else 0#64)]

/-- `LOAD_VEL v0, ..., vk` and `LOAD_DIST v0, ..., vk`. -/
def pseudoLoad (m : SpMem) (vs : List Fixed) : List Instr := .spClr m :: vs.map (.spPush m)

/-- `CYC_UP t`: one forward quadrature cycle. -/
def cycUp (t : Tick) : List Instr :=
  [.encEdge .b true t, .encEdge .a true (t + 1#32), .encEdge .b false (t + 2#32), .encEdge .a false (t + 3#32)]

/-- `CYC_DN t`: one reverse quadrature cycle. -/
def cycDn (t : Tick) : List Instr :=
  [.encEdge .b false t, .encEdge .a true (t + 1#32), .encEdge .b true (t + 2#32), .encEdge .a false (t + 3#32)]

end Sys2Proof.Machine
end

