-- ==== Sys2Proof/Safety.lean ====
section
/-!
DEFINITION. What counts as a safe state and a safe run: the invariants the rules promise, and the transitions of
`MC_STATE` that R200 allows.
-/

namespace Sys2Proof.Machine

/-! ## Invariants -/

/-- The parameters are legal and no memory exceeds its capacity (R7, R11, R33, R60, R61). -/
def State.MemoryOk (s : State) : Prop := s.cfg.wf ∧ Memory.wf s.cfg s.mem

/-- `0 ≤ val(WORKSPACE_WIDTH) ≤ val(LIMIT_WIDTH)` (R52, R366), on the s64 patterns. -/
def State.WidthsOk (s : State) : Prop :=
  0 ≤ s.setup.workspaceWidth.toInt ∧ s.setup.workspaceWidth.toInt ≤ s.setup.limitWidth.toInt

/-- `PHASE` is a phase of `MC_STATE` (R41). -/
def State.PhaseOk (s : State) : Prop := phaseFits s.mcState s.phase = true

/-- The motor is off whenever the sequencer has no step (R402, R403). -/
def State.MotorOffOk (s : State) : Prop := s.mcState.isBusy = false → s.duty = 0#8

/-- Homing has passed its entry tests (R241). -/
def pastEntry : Phase → Bool
  | .hProbeDn | .hBackoff | .hProbeUp | .hCleanDn | .hCleanDnConf | .hCleanUp | .hCleanUpConf | .hMoveOff | .hSeek
  | .hSettle1 | .hSettle2 => true
  | .rest | .hEntry | .rWait | .rSample | .rCommit | .rVSample | .rVCommit => false

/-- Homing has calibrated (R249). -/
def pastCalibration : Phase → Bool
  | .hMoveOff | .hSeek | .hSettle1 | .hSettle2 => true
  | .rest | .hEntry | .hProbeDn | .hBackoff | .hProbeUp | .hCleanDn | .hCleanDnConf | .hCleanUp | .hCleanUpConf
  | .rWait | .rSample | .rCommit | .rVSample | .rVCommit => false

/-- Runs are homed (R211), homing is not (R210), the state HOMED is (R253), `CPM` > 0 whenever homed (R57), and what
homing has established on the way there. -/
def State.HomedOk (s : State) : Prop :=
  (s.flags.homed = true → 0 < s.cal.cpm) ∧
  (s.mcState.isRun = true → s.flags.homed = true) ∧
  (s.mcState = .homed → s.flags.homed = true) ∧
  (s.mcState = .homing → s.flags.homed = false) ∧
  (s.mcState = .homing → pastEntry s.phase = true → 0 < s.setup.limitWidth.toInt) ∧
  (s.mcState = .homing → pastCalibration s.phase = true → 0 < s.cal.cpm)

/-- A pending write exists only between SAMPLE and COMMIT, and always in the path loop's COMMIT (R71, R306). -/
def State.PendOk (s : State) : Prop :=
  (s.pend ≠ none → s.phase = .rCommit ∨ s.phase = .rVCommit) ∧ (s.phase = .rCommit → s.pend ≠ none)

/-- The captured milliseconds strictly increase and none is past `LAST_MS` (R330). -/
def State.TraceOk (s : State) : Prop :=
  s.mem.trace.Pairwise (fun x y => x.ms.toNat < y.ms.toNat) ∧
  ∀ x ∈ s.mem.trace, ∃ m, s.lastMs = some m ∧ x.ms.toNat ≤ m.toNat

/-- The result registers say "in progress" exactly while homing, respectively a run, is in progress (R63, R64). -/
def State.ResultsOk (s : State) : Prop :=
  (s.homeResult = .inProgress ↔ s.mcState = .homing) ∧ (s.runResult = .inProgress ↔ s.mcState.isRun = true)

/-- A vision mode runs only with the gain set and the channel bound (R211, R115). -/
def State.VisionOk (s : State) : Prop :=
  s.mcState = .runVis ∨ s.mcState = .runPdffVis → s.setup.kvisSet = true ∧ s.setup.visBound = true

/-- The invariant of the block. -/
structure State.Inv (s : State) : Prop where
  memory : s.MemoryOk
  widths : s.WidthsOk
  phase : s.PhaseOk
  motorOff : s.MotorOffOk
  homed : s.HomedOk
  pend : s.PendOk
  trace : s.TraceOk
  results : s.ResultsOk
  vision : s.VisionOk

/-! ## Turns and runs of operations -/

/-- The turn in which a legal word of `i` arrives. -/
def isTurnOf (i : Instr) (t : Turn) : Prop :=
  match t with
  | .event w => decode .evt w = .ok i
  | .command w => decode .cmd w = .ok i
  | .reset | .sequencer => False

/-- Operations one after the other, with no other agent between them. -/
def execAll : List Instr → State → Result
  | [], s => .next s
  | i :: is, s =>
    match exec i s with
    | .next t => execAll is t
    | .fault r => .fault r
    | .refused r => .refused r

/-- The five RUN commands: the operation, the state it enters, whether it needs velocity setpoints, distance setpoints
and vision (41_motor_commands.md R212 to R216). -/
def runCommands (t : Tick) : List (Instr × McState × Bool × Bool × Bool) :=
  [(.runOl t, .runOl, true, false, false), (.runPdff t, .runPdff, true, true, false),
   (.runPdffVis t, .runPdffVis, true, true, true), (.runVis t, .runVis, false, false, true),
   (.runPoint t, .runPoint, false, false, false)]

/-! ## Transitions of `MC_STATE` (41_motor_commands.md R200) -/

/-- The last settle check passes (42_homing.md R253). -/
def State.LastSettlePasses (s : State) : Prop :=
  s.phase = .hSettle2 ∧ -(s.setup.tol.toNat : ℚ) ≤ (s.enc.count.toInt : ℚ) - s.cal.limitBuffer ∧
    (s.enc.count.toInt : ℚ) - s.cal.limitBuffer ≤ (s.setup.tol.toNat : ℚ)

/-- The one cause of HomeFail(1): the back-off is inside `TOL` of `START` (R244). -/
def State.BackoffEnds (s : State) : Prop :=
  s.phase = .hBackoff ∧ ((s.enc.count.toInt - s.start.toInt).natAbs : ℤ) ≤ s.setup.tol.toNat

/-- The causes of HomeFail(2): a fatal condition at entry (R241), or a span that is not positive at the upper
confirmation (R249). -/
def State.FatalCause (s : State) : Prop :=
  (s.phase = .hEntry ∧
    (val s.setup.workspaceWidth > val s.setup.limitWidth ∨ val s.setup.limitWidth ≤ 0 ∨
      (s.live.limLo = false ∧ s.live.limHi = false))) ∨
  (s.phase = .hCleanUpConf ∧ s.live.limHi = false ∧ s.enc.count.toInt ≤ 0)

/-- The rows of R200's table, in its order: turn `x` may take `MC_STATE` from that of `s`, in which the agent acts, to that
of `t`, for the cause the row names. -/
def McRow (x : Turn) (s t : State) : Prop :=
  (x = .reset ∧ t.mcState = .uninit) ∨
  (s.mcState = .uninit ∧ t.mcState = .idle ∧ isTurnOf .mcInit x) ∨
  (s.mcState.isIls = true ∧ t.mcState = .homing ∧ isTurnOf .home x) ∨
  (s.mcState = .homing ∧ t.mcState = .homed ∧ x = .sequencer ∧ s.LastSettlePasses) ∨
  (s.mcState = .homing ∧ t = s.homeFailRec ∧ x = .sequencer ∧ s.BackoffEnds) ∨
  (s.mcState = .homing ∧ t = s.homeFailFatal ∧ x = .sequencer ∧ s.FatalCause) ∨
  (s.mcState = .homing ∧ t.mcState = .idle ∧ isTurnOf .stop x) ∨
  (s.mcState.isIls = true ∧ s.flags.homed = true ∧
    ∃ (k : Tick) (i : Instr) (needsVel needsDist needsVision : Bool),
      (i, t.mcState, needsVel, needsDist, needsVision) ∈ runCommands k ∧ isTurnOf i x ∧
      (needsVel = true → s.mem.vel ≠ []) ∧ (needsDist = true → s.mem.dist ≠ []) ∧
      (needsVision = true → s.setup.kvisSet = true ∧ s.setup.visBound = true)) ∨
  (s.mcState.isRun = true ∧ x = .sequencer ∧
    ∃ c ∈ [Cause.complete, .reached, .abortLatch, .abortWsHigh, .abortWsLow], t = s.runExit c) ∨
  (s.mcState.isRun = true ∧ t.mcState = .idle ∧ t.runResult = .ended .stopped ∧ isTurnOf .stop x)

end Sys2Proof.Machine
end

