-- ==== Sys2Proof/Certificates/Slice0/Obligations.lean ====
section
/-!
DEFINITION. The statements for the provers. Each says what an operation, a sequencer step or the whole block does, from the
rules it names; an equation of whole states is also the statement's frame.
-/

section

open Sys2Proof Sys2Proof.Machine

/-! ## Encoding -/

/-- Decoding the word of a well-formed instruction on its port gives the instruction back (R131, R132, R135, R136). -/
def Obligations.DecodeOfEncode : Prop :=
  ∀ i : Instr, i.wf = true → decode i.port (encode i) = .ok i

/-- Every legal word is the word of the one instruction it decodes to: no other word of a port is legal (R131 to R143). -/
def Obligations.EncodeOfDecode : Prop :=
  ∀ (p : Port) (w : OpWord) (i : Instr), decode p w = .ok i → i.wf = true ∧ i.port = p ∧ encode i = w

/-- The worked words of R148, and its last sentence: the 16 bits after SEL of a legal word are 1 or 0 as LVL is. -/
def Obligations.DecodesWorkedWords : Prop :=
  decode .evt 0x0100000100000000000004E2 = .ok (.encEdge .a true 1250#32) ∧
  decode .evt 0x0101000000000000000005DC = .ok (.encEdge .b false 1500#32) ∧
  decode .evt 0x030100000000000000000000 = .ok (.limEdge .hi false) ∧
  decode .cmd 0x120000000000000000000000 = .ok .getCps ∧
  decode .cmd 0x212300000000000280000000 = .ok (.regWr Reg.kP.sel (qImage (5 / 2))) ∧
  decode .cmd 0x21290000FFFFFFFFFFFFFF9C = .ok (.regWr Reg.pointTarget.sel (BitVec.ofInt 64 (-100))) ∧
  decode .cmd 0x3900000000000000000F4240 = .ok (.runPdff 1000000#32) ∧
  ∀ (p : Port) (w : OpWord) (i : Instr), decode p w = .ok i →
    w.extractLsb' 64 16 = if lvlOf w = true then 1#16 else 0#16

/-- Every word whose opcode R142 reserves is illegal on both ports, the all-zero word among them. -/
def Obligations.ReservedOpcodesIllegal : Prop :=
  (∀ p : Port, decode p 0#96 = .illegal .reservedOpcode) ∧
  ∀ (p : Port) (w : OpWord) (b : Nat), b = (opcOf w).toNat →
    (b = 0x00 ∨ (0x04 ≤ b ∧ b ≤ 0x0F) ∨ b = 0x13 ∨ (0x15 ≤ b ∧ b ≤ 0x1F) ∨ (0x22 ≤ b ∧ b ≤ 0x27) ∨ b = 0x2B ∨
      (0x2D ≤ b ∧ b ≤ 0x2F) ∨ (0x35 ≤ b ∧ b ≤ 0x37) ∨ b = 0x3D ∨ (0x40 ≤ b ∧ b ≤ 0xFF)) →
    decode p w = .illegal .reservedOpcode

/-- Operation words and response words over a narrower channel (R102): the most significant part goes first, that is byte j
of an operation word is w[95-8j:88-8j], its 32-bit part j is w[95-32j:64-32j], byte j of a response word is r[71-8j:64-8j],
and a word sent byte by byte arrives as it was sent. A response word has STATUS in r[71:64] and RDATA in r[63:0] (R133). -/
def Obligations.SerialRoundTrip : Prop :=
  (∀ (w : OpWord) (rest : List (BitVec 8)),
    wordOfSerial (serialBytes w ++ rest) = some (w, rest) ∧ (serialBytes w).length = 12 ∧
    (serialWords w).length = 3 ∧
    (∀ j : Nat, j < 12 → (serialBytes w)[j]? = some (w.extractLsb' (88 - 8 * j) 8)) ∧
    ∀ j : Nat, j < 3 → (serialWords w)[j]? = some (w.extractLsb' (64 - 32 * j) 32)) ∧
  (∀ (r : RspWord) (rest : List (BitVec 8)),
    rspOfSerial (serialRspBytes r ++ rest) = some (r, rest) ∧ (serialRspBytes r).length = 9 ∧
    ∀ j : Nat, j < 9 → (serialRspBytes r)[j]? = some (r.extractLsb' (64 - 8 * j) 8)) ∧
  ∀ r : Response, r.word.extractLsb' 64 8 = r.status.code ∧ r.word.extractLsb' 0 64 = r.data

/-! ## The step -/

/-- A step whose turn brings a legal word runs that word's instruction, in the state that sees the step's samples, with
the stimulus taken and the response port clear (R110, R130; the port, the script and the clearing are the model's own:
log entries 2 and 5). -/
def Obligations.StepRunsDecoded : Prop :=
  ∀ (s : State) (p : Port) (w : OpWord) (l : Live) (rest : List Stimulus) (i : Instr),
    s.script = { turn := portTurn p w, live := l } :: rest → decode p w = .ok i →
    step s = exec i { s with live := l, rsp := none, script := rest }

/-- A step whose turn brings an illegal word: a command answers ERR_ILLEGAL and changes nothing else, an event is dropped
with EVT_ILLEGAL set (R140, R141). -/
def Obligations.StepRejectsIllegalWords : Prop :=
  ∀ (s : State) (w : OpWord) (l : Live) (rest : List Stimulus) (r : Reject),
    (s.script = { turn := .command w, live := l } :: rest → decode .cmd w = .illegal r →
      step s = .next { s with live := l, script := rest, rsp := some { status := .errIllegal, data := 0#64 } }) ∧
    (s.script = { turn := .event w, live := l } :: rest → decode .evt w = .illegal r →
      step s = .next { s with live := l, script := rest, rsp := none, errFlags := s.errFlags ||| 1#2 })

/-- A step whose turn is reset leaves nothing of the state but the instance's parameters (R440), and the mapped registers
then read as R441 lists them. -/
def Obligations.ResetClearsState : Prop :=
  (∀ (s : State) (l : Live) (rest : List Stimulus), s.script = { turn := .reset, live := l } :: rest →
    step s = .next { State.resetOf s.cfg with live := l, script := rest, turnNo := s.turnNo }) ∧
  ∀ (c : Config) (r : Reg), readImage r (State.resetOf c) =
    if r = .encStatus then 0x10#64 else if r = .encCtrl then 0x1#64 else if r = .mcOut then 0x100#64
    else if r = .homeResult then 0xFD#64 else if r = .encN then BitVec.ofNat 64 c.n
    else if r = .axisId then c.axis.id.setWidth 64 else 0#64

/-! ## Encoder unit -/

/-- ENC_EDGE. While the encoder is disabled, or on the pin of the last accepted edge, it changes nothing (R161, R165). An
accepted edge writes the marker, the pin's stored level, the count by the direction rule modulo 2^32, and one sample
with the oldest evicted from a full history; nothing else changes (R160 to R164). -/
def Obligations.EncEdgeIgnoredOrAccepted : Prop :=
  ∀ (p : QPin) (l : Bool) (k : Tick) (s : State) (c : S32),
    (s.enc.encEn = false ∨ s.enc.lastPin = pinKey p → exec (.encEdge p l k) s = .next s) ∧
    (s.enc.encEn = true → s.enc.lastPin ≠ pinKey p →
    c = (if l = true ∧ p = .a ∧ s.enc.levB = true then s.enc.count + 1#32
      else if l = true ∧ p = .b ∧ s.enc.levA = true then s.enc.count - 1#32 else s.enc.count) →
    exec (.encEdge p l k) s = .next { s with
      enc := { s.enc with count := c, lastPin := pinKey p, levA := if p = .a then l else s.enc.levA,
                          levB := if p = .b then l else s.enc.levB },
      mem := { s.mem with
        hist := (if s.mem.hist.length = s.cfg.n then s.mem.hist.tail else s.mem.hist)
          ++ [{ tick := k, count := c }] } })

/-- IDX_EDGE: the rising edge with both enables set logs the count, marks the log valid and zeroes the count; any other
index edge does nothing (R168). -/
def Obligations.IdxEdgeLogsAndZeroes : Prop :=
  ∀ (l : Bool) (k : Tick) (s : State),
    (s.enc.encEn = true → l = true → s.enc.idxRstEn = true →
      exec (.idxEdge l k) s =
        .next { s with enc := { s.enc with idxLog := s.enc.count, idxValid := true, count := 0#32 } }) ∧
    (s.enc.encEn = false ∨ l = false ∨ s.enc.idxRstEn = false → exec (.idxEdge l k) s = .next s)

/-- ENC_RESET zeroes the count and nothing else, and GET_COUNT answers the count sign-extended, in every state
(R169, R170). -/
def Obligations.EncResetAndGetCount : Prop :=
  ∀ s : State,
    exec .encReset s =
      .next { s with enc := { s.enc with count := 0#32 }, rsp := some { status := .ok, data := 0#64 } } ∧
    exec .getCount s =
      .next { s with rsp := some { status := .ok, data := BitVec.ofInt 64 s.enc.count.toInt } }

/-- GET_CPS: OK_DEGENERATE and 0 for a short snapshot or one whose ticks are all equal, else OK and the Q32.32 image of
the exact least-squares slope times 1000000 (R171, R172, R174). -/
def Obligations.GetCpsAnswers : Prop :=
  ∀ s : State,
    ((s.mem.hist.length ≠ s.cfg.n ∨ ∀ x ∈ s.mem.hist, ∀ y ∈ s.mem.hist, x.tick = y.tick) →
      exec .getCps s = .next { s with rsp := some { status := .okDegenerate, data := 0#64 } }) ∧
    (s.mem.hist.length = s.cfg.n → (∃ x ∈ s.mem.hist, ∃ y ∈ s.mem.hist, x.tick ≠ y.tick) →
      ∀ sx sy sxy sxx : ℤ,
        sx = (s.mem.hist.map fun x => (x.tick.toNat : ℤ)).sum →
        sy = (s.mem.hist.map fun x => x.count.toInt).sum →
        sxy = (s.mem.hist.map fun x => (x.tick.toNat : ℤ) * x.count.toInt).sum →
        sxx = (s.mem.hist.map fun x => (x.tick.toNat : ℤ) * (x.tick.toNat : ℤ)).sum →
        exec .getCps s = .next { s with
          rsp := some { status := .ok,
                        data := qImage (((s.cfg.n * sxy - sx * sy : ℤ) : ℚ)
                          / ((s.cfg.n * sxx - sx * sx : ℤ) : ℚ) * 1000000) } })

/-- HIST_RD answers the field of the sample at an index below FILL and ERR_INDEX at or beyond it (R173). -/
def Obligations.HistRdAnswers : Prop :=
  ∀ (i : Nat) (s : State),
    (∀ x : HistSample, s.mem.hist[i]? = some x →
      exec (.histRd .tick i) s =
        .next { s with rsp := some { status := .ok, data := BitVec.ofNat 64 x.tick.toNat } } ∧
      exec (.histRd .count i) s =
        .next { s with rsp := some { status := .ok, data := BitVec.ofInt 64 x.count.toInt } }) ∧
    (s.mem.hist.length ≤ i → ∀ f : HistField,
      exec (.histRd f i) s = .next { s with rsp := some { status := .errIndex, data := 0#64 } })

/-- R174 (a): for a full snapshot the denominator of the estimator is never negative, and zero exactly when all the ticks
are equal. -/
def Obligations.EstimatorDenominator : Prop :=
  ∀ h : List HistSample, 0 ≤ cpsDen h.length h ∧
    (cpsDen h.length h = 0 ↔ ∀ x ∈ h, ∀ y ∈ h, x.tick = y.tick)

/-- R174 (b): on an exactly linear history with two different ticks the estimate is exactly the slope times 1000000. -/
def Obligations.EstimatorExactLine : Prop :=
  ∀ (h : List HistSample) (a b : ℚ), (∃ x ∈ h, ∃ y ∈ h, x.tick ≠ y.tick) →
    (∀ x ∈ h, (x.count.toInt : ℚ) = a * (x.tick.toNat : ℚ) + b) →
    cpsValue h.length h = (a * 1000000, false)

/-- R174 (c): adding one constant to every count, or one constant to every tick as integers, leaves the estimate as it
was. -/
def Obligations.EstimatorShiftInvariant : Prop :=
  ∀ (h g : List HistSample) (dx dy : ℤ),
    List.Forall₂ (fun x y : HistSample => (y.tick.toNat : ℤ) = (x.tick.toNat : ℤ) + dx ∧
      y.count.toInt = x.count.toInt + dy) h g →
    cpsValue h.length g = cpsValue h.length h

/-- CYC_UP adds 1 to the count whenever LAST_PIN is not B, LEV_A is 0 and the encoder is on, CYC_DN subtracts 1 whenever
LAST_PIN is not B and the encoder is on; both end with LAST_PIN = A and LEV_A = 0 (R146). Only the encoder and the history
change. -/
def Obligations.QuadratureCycleCounts : Prop :=
  ∀ (k : Tick) (s : State), s.enc.encEn = true → s.enc.lastPin ≠ .b →
    (s.enc.levA = false → ∃ t, execAll (cycUp k) s = .next t ∧ t.enc.count = s.enc.count + 1#32 ∧
      t = { s with enc := { s.enc with count := t.enc.count, lastPin := .a, levA := false, levB := false },
                   mem := { s.mem with hist := t.mem.hist } }) ∧
    ∃ t, execAll (cycDn k) s = .next t ∧ t.enc.count = s.enc.count - 1#32 ∧
      t = { s with enc := { s.enc with count := t.enc.count, lastPin := .a, levA := false, levB := true },
                   mem := { s.mem with hist := t.mem.hist } }

/-! ## Limit latch -/

/-- LIM_EDGE: with latching on, a falling edge whose re-read is low zeroes the duty and sets the latch; any other limit
edge does nothing (R280). -/
def Obligations.LimEdgeTripsOrDrops : Prop :=
  ∀ (p : LimPin) (l : Bool) (s : State) (level : Bool),
    level = (match p with | .lo => s.live.limLo | .hi => s.live.limHi) →
    (s.flags.latchEn = true → l = false → level = false →
      exec (.limEdge p l) s = .next { s with duty := 0#8, flags := { s.flags with limitLatch := true } }) ∧
    (s.flags.latchEn = false ∨ l = true ∨ level = true → exec (.limEdge p l) s = .next s)

/-- LATCH_ACT, LATCH_DEACT and LATCH_RESET each write their one bit in every state but UNINIT, where they answer ERR_STATE
(R281, R282, R283). -/
def Obligations.LatchCommands : Prop :=
  ∀ s : State,
    (s.mcState ≠ .uninit →
      exec .latchAct s = .next { s with flags := { s.flags with latchEn := true },
                                        rsp := some { status := .ok, data := 0#64 } } ∧
      exec .latchDeact s = .next { s with flags := { s.flags with latchEn := false },
                                          rsp := some { status := .ok, data := 0#64 } } ∧
      exec .latchReset s = .next { s with flags := { s.flags with limitLatch := false },
                                          rsp := some { status := .ok, data := 0#64 } }) ∧
    (s.mcState = .uninit → ∀ i ∈ [Instr.latchAct, .latchDeact, .latchReset],
      exec i s = .next { s with rsp := some { status := .errState, data := 0#64 } })

/-- The latch is sticky: no step clears it but LATCH_RESET and reset, and no step sets it but a LIM_EDGE that reports a
falling edge while latching is on (R43, R283). -/
def Obligations.LatchStickyUntilReset : Prop :=
  ∀ s t : State, step s = .next t →
    (s.flags.limitLatch = true → t.flags.limitLatch = false →
      (nextStimulus s).turn = .reset ∨ isTurnOf .latchReset (nextStimulus s).turn) ∧
    (s.flags.limitLatch = false → t.flags.limitLatch = true →
      s.flags.latchEn = true ∧ ∃ p, isTurnOf (.limEdge p false) (nextStimulus s).turn)

/-! ## Motor commands -/

/-- MC_INIT takes UNINIT to IDLE and keeps everything else; in any other state it answers ERR_STATE (R201). -/
def Obligations.McInitOnce : Prop :=
  ∀ s : State,
    (s.mcState = .uninit → exec .mcInit s =
      .next { s with mcState := .idle, phase := .rest, rsp := some { status := .ok, data := 0#64 } }) ∧
    (s.mcState ≠ .uninit → exec .mcInit s = .next { s with rsp := some { status := .errState, data := 0#64 } })

/-- HOME is accepted in the idle-like states: it clears HOMED, marks the homing in progress and enters H_ENTRY; elsewhere
it answers ERR_STATE (R210). -/
def Obligations.HomeStartsHoming : Prop :=
  ∀ s : State,
    (s.mcState ∈ [McState.idle, .homed, .homeFailRec, .homeFailFatal] → exec .home s =
      .next { s with flags := { s.flags with homed := false }, homeResult := .inProgress, mcState := .homing,
                     phase := .hEntry, rsp := some { status := .ok, data := 0#64 } }) ∧
    (s.mcState ∉ [McState.idle, .homed, .homeFailRec, .homeFailFatal] → exec .home s =
      .next { s with rsp := some { status := .errState, data := 0#64 } })

/-- RUN_OL, RUN_PDFF, RUN_PDFF_VIS, RUN_VIS and RUN_POINT (the rows of `runCommands`), each in an idle-like state, homed, with
the setpoints and the vision binding its mode needs, are accepted: the start tick is recorded, the five run flags are cleared,
the run is marked in progress and waits (R211 to R216). -/
def Obligations.RunCommandsAccepted : Prop :=
  ∀ (k : Tick) (s : State) (i : Instr) (m : McState) (needsVel needsDist needsVision : Bool),
    (i, m, needsVel, needsDist, needsVision) ∈ runCommands k →
    s.mcState ∈ [McState.idle, .homed, .homeFailRec, .homeFailFatal] → s.flags.homed = true →
    (needsVel = true → s.mem.vel.length ≠ 0) → (needsDist = true → s.mem.dist.length ≠ 0) →
    (needsVision = true → s.setup.kvisSet = true ∧ s.setup.visBound = true) →
    exec i s = .next { s with
      t0 := k, runResult := .inProgress, pend := none, mcState := m, phase := .rWait,
      flags := { s.flags with pathStarted := false, pathDone := false, visStarted := false, visDone := false,
                              allDone := false },
      rsp := some { status := .ok, data := 0#64 } }

/-- A refused RUN command changes nothing but the response, which is the first failing test in the order state, setpoints,
homed, vision gain, vision binding (R211, R405). -/
def Obligations.RunCommandsRefusedInOrder : Prop :=
  ∀ (k : Tick) (s : State) (i : Instr) (m : McState) (needsVel needsDist needsVision : Bool),
    (i, m, needsVel, needsDist, needsVision) ∈ runCommands k →
    let ils := s.mcState ∈ [McState.idle, .homed, .homeFailRec, .homeFailFatal]
    let noVel := needsVel = true ∧ s.mem.vel = []
    let noDist := needsDist = true ∧ s.mem.dist = []
    let noGain := needsVision = true ∧ s.setup.kvisSet = false
    let noBind := needsVision = true ∧ s.setup.visBound = false
    (¬ ils → exec i s = .next { s with rsp := some { status := .errState, data := 0#64 } }) ∧
    (ils → noVel ∨ noDist → exec i s = .next { s with rsp := some { status := .errNoSetpoints, data := 0#64 } }) ∧
    (ils → ¬ noVel → ¬ noDist → s.flags.homed = false →
      exec i s = .next { s with rsp := some { status := .errNotHomed, data := 0#64 } }) ∧
    (ils → ¬ noVel → ¬ noDist → s.flags.homed = true → noGain →
      exec i s = .next { s with rsp := some { status := .errNoVgain, data := 0#64 } }) ∧
    (ils → ¬ noVel → ¬ noDist → s.flags.homed = true → ¬ noGain → noBind →
      exec i s = .next { s with rsp := some { status := .errNoVbind, data := 0#64 } })

/-- STOP: refused in UNINIT, ends a homing with result 0xFE, ends a run as RunExit(STOPPED) does with the done flag of the
phase in progress, and in the idle-like states zeroes the duty alone (R220, R303). -/
def Obligations.StopByState : Prop :=
  ∀ s : State,
    (s.mcState = .uninit → exec .stop s = .next { s with rsp := some { status := .errState, data := 0#64 } }) ∧
    (s.mcState = .homing → exec .stop s =
      .next { s with duty := 0#8, homeResult := .stopped, mcState := .idle, phase := .rest,
                     rsp := some { status := .ok, data := 0#64 } }) ∧
    (s.mcState ∈ [McState.runOl, .runPdff, .runPdffVis, .runVis, .runPoint] → exec .stop s =
      .next { s with
        duty := 0#8, pend := none, runResult := .ended .stopped, mcState := .idle, phase := .rest,
        flags := { s.flags with
          latchEn := false, allDone := true,
          pathDone := if s.phase = .rSample ∨ s.phase = .rCommit then true else s.flags.pathDone,
          visDone := if s.phase = .rVSample ∨ s.phase = .rVCommit then true else s.flags.visDone },
        rsp := some { status := .ok, data := 0#64 } }) ∧
    (s.mcState ∈ [McState.idle, .homed, .homeFailRec, .homeFailFatal] → exec .stop s =
      .next { s with duty := 0#8, rsp := some { status := .ok, data := 0#64 } })

/-- CLR_DONE clears ALL_DONE and nothing else, in every state; its word is 0x3F and zeros (R221). -/
def Obligations.ClrDoneClearsAllDone : Prop :=
  decode .cmd 0x3F0000000000000000000000 = .ok .clrDone ∧
  ∀ s : State, exec .clrDone s =
    .next { s with flags := { s.flags with allDone := false }, rsp := some { status := .ok, data := 0#64 } }

/-! ## Registers, setpoints, trace -/

/-- REG_RD answers OK and the register's image for each of the 38 numbers of R75's table and ERR_UNMAPPED for every other
number, and changes nothing else (R75, R360); no register is missing from the table. -/
def Obligations.RegRdAnswers : Prop :=
  let table : List (BitVec 8 × Reg) :=
    [(0x00#8, Reg.encCount), (0x01#8, .encStatus), (0x02#8, .encCtrl), (0x03#8, .encFill), (0x04#8, .encN),
    (0x05#8, .encIdxLog), (0x10#8, .mcStatus), (0x11#8, .mcFlags), (0x12#8, .mcOut), (0x13#8, .homeResult),
    (0x14#8, .runResult), (0x15#8, .errFlags), (0x16#8, .axisId), (0x18#8, .mcCfg), (0x19#8, .minUp),
    (0x1A#8, .minDown), (0x1B#8, .tol), (0x1C#8, .probeCeil), (0x1D#8, .slackHiPath), (0x1E#8, .slackHiVis),
    (0x1F#8, .slackLo), (0x20#8, .limitWidth), (0x21#8, .workspaceWidth), (0x22#8, .kFf), (0x23#8, .kP),
    (0x24#8, .kD), (0x25#8, .pwmConst), (0x26#8, .kVis), (0x28#8, .tParam), (0x29#8, .pointTarget),
    (0x30#8, .span), (0x31#8, .cpm), (0x32#8, .wwCount), (0x33#8, .limitBuffer), (0x34#8, .vlen), (0x35#8, .dlen),
    (0x36#8, .traceLen), (0x37#8, .t0)]
  (∀ r : Reg, (r.sel, r) ∈ table) ∧
  ∀ s : State,
    (∀ p ∈ table, p.2.sel = p.1 ∧
      exec (.regRd p.1) s = .next { s with rsp := some { status := .ok, data := readImage p.2 s } }) ∧
    ∀ sel : BitVec 8, (∀ p ∈ table, p.1 ≠ sel) →
      exec (.regRd sel) s = .next { s with rsp := some { status := .errUnmapped, data := 0#64 } }

/-- An accepted REG_WR to a read-write register answers OK, the register then reads back as written, every other register
reads as before but for the bits R367 names (K_VIS sets KVIS_SET in MC_FLAGS; ENC_CTRL is ENC_EN in ENC_STATUS), and
nothing outside the configuration and the two encoder enables changes (R362, R367). A write of ERR_FLAGS clears each flag
whose written bit is 1 and leaves the other (R65, R367). ENC_CTRL and ERR_FLAGS are writable in every state, the busy ones
included (R363). The read-write registers are ENC_CTRL and the motor configuration registers (R75). -/
def Obligations.RegWrStoresAndReadsBack : Prop :=
  (∀ r : Reg, r.access = .rw ↔ r ∈ [Reg.encCtrl, .mcCfg, .minUp, .minDown, .tol, .probeCeil, .slackHiPath,
    .slackHiVis, .slackLo, .limitWidth, .workspaceWidth, .kFf, .kP, .kD, .pwmConst, .kVis, .tParam, .pointTarget]) ∧
  (∀ (r : Reg) (x : Data) (s : State), r.access = .rw → (r.isMotorConfig = true → s.mcState.isBusy = false) →
    legalValue r x s = true →
    ∃ t, exec (.regWr r.sel x) s = .next t ∧ t.rsp = some { status := .ok, data := 0#64 } ∧ readImage r t = x ∧
      (∀ r' : Reg, r' ≠ r → ¬ (r = .kVis ∧ r' = .mcFlags) → ¬ (r = .encCtrl ∧ r' = .encStatus) →
        readImage r' t = readImage r' s) ∧
      t.setup.kvisSet = (s.setup.kvisSet || decide (r = .kVis)) ∧
      t = { s with setup := t.setup, rsp := t.rsp,
                   enc := { s.enc with encEn := t.enc.encEn, idxRstEn := t.enc.idxRstEn } }) ∧
  (∀ (x : Data) (s : State), x.toNat ≤ 3 → exec (.regWr 0x02#8 x) s =
    .next { s with enc := { s.enc with encEn := x.getLsbD 0, idxRstEn := x.getLsbD 1 },
                   rsp := some { status := .ok, data := 0#64 } }) ∧
  ∀ (x : Data) (s : State), x.toNat ≤ 3 →
    ∃ t, exec (.regWr 0x15#8 x) s = .next t ∧
      (∀ b : Nat, b < 2 → t.errFlags.getLsbD b = (s.errFlags.getLsbD b && !x.getLsbD b)) ∧
      t = { s with errFlags := t.errFlags, rsp := some { status := .ok, data := 0#64 } }

/-- A refused REG_WR changes nothing but the response, which is the first failing test in the order unmapped, read-only,
busy, range (R362, R405); with the lists of the read-only registers (R364) and of the motor configuration registers (R363),
ERR_FLAGS being the one write-one-to-clear register (R75). -/
def Obligations.RegWrRefusedInOrder : Prop :=
  (∀ r : Reg,
    (r.access = .ro ↔ r ∈ [Reg.encCount, .encStatus, .encFill, .encN, .encIdxLog, .mcStatus, .mcFlags, .mcOut,
      .homeResult, .runResult, .axisId, .span, .cpm, .wwCount, .limitBuffer, .vlen, .dlen, .traceLen, .t0]) ∧
    (r.access = .w1c ↔ r = .errFlags) ∧
    (r.isMotorConfig = true ↔ r ∈ [Reg.mcCfg, .minUp, .minDown, .tol, .probeCeil, .slackHiPath, .slackHiVis,
      .slackLo, .limitWidth, .workspaceWidth, .kFf, .kP, .kD, .pwmConst, .kVis, .tParam, .pointTarget])) ∧
  ∀ (x : Data) (s : State),
    (∀ sel : BitVec 8, (∀ r : Reg, r.sel ≠ sel) →
      exec (.regWr sel x) s = .next { s with rsp := some { status := .errUnmapped, data := 0#64 } }) ∧
    ∀ r : Reg,
      (r.access = .ro → exec (.regWr r.sel x) s = .next { s with rsp := some { status := .errRo, data := 0#64 } }) ∧
      (r.access ≠ .ro → r.isMotorConfig = true → s.mcState.isBusy = true →
        exec (.regWr r.sel x) s = .next { s with rsp := some { status := .errBusy, data := 0#64 } }) ∧
      (r.access ≠ .ro → (r.isMotorConfig = true → s.mcState.isBusy = false) → legalValue r x s = false →
        exec (.regWr r.sel x) s = .next { s with rsp := some { status := .errRange, data := 0#64 } })

/-- The images REG_RD answers (R361, R73, R75): the bit registers as sums of weighted bits and fields, the signed registers
sign-extended, the unsigned ones zero-extended, the Q registers as stored, the exact rationals by their Q32.32 image; and
the codes they show of MC_STATE (R40), PHASE (R41), LAST_PIN (R32), HOME_RESULT (R63) and RUN_RESULT (R64). -/
def Obligations.RegisterImages : Prop :=
  (∀ m : McState, (m, m.code.toNat) ∈ [(McState.uninit, 0), (.idle, 1), (.homing, 2), (.homeFailRec, 3),
    (.homeFailFatal, 4), (.homed, 5), (.runOl, 8), (.runPdff, 9), (.runPdffVis, 10), (.runVis, 11), (.runPoint, 12)]) ∧
  (∀ p : Phase, (p, p.code.toNat) ∈ [(Phase.rest, 0), (.hEntry, 0), (.hProbeDn, 1), (.hBackoff, 2), (.hProbeUp, 3),
    (.hCleanDn, 4), (.hCleanDnConf, 5), (.hCleanUp, 6), (.hCleanUpConf, 7), (.hMoveOff, 8), (.hSeek, 9),
    (.hSettle1, 10), (.hSettle2, 11), (.rWait, 0), (.rSample, 1), (.rCommit, 2), (.rVSample, 3), (.rVCommit, 4)]) ∧
  (∀ p : LastPin, (p, p.code.toNat) ∈ [(LastPin.none, 0), (.a, 1), (.b, 2)]) ∧
  (∀ h : HomeResult, (h, h.code.toNat) ∈ [(HomeResult.success, 0x00), (.recoverable, 0x01), (.fatal, 0x02),
    (.none, 0xFD), (.stopped, 0xFE), (.inProgress, 0xFF)]) ∧
  (∀ r : RunResult, (r, r.code.toNat) ∈ [(RunResult.none, 0x00), (.ended .complete, 0x01),
    (.ended .abortLatch, 0x02), (.ended .abortWsHigh, 0x03), (.ended .abortWsLow, 0x04), (.ended .stopped, 0x05),
    (.ended .reached, 0x06), (.inProgress, 0xFF)]) ∧
  ∀ s : State,
    ((readImage .encStatus s).toNat = s.enc.levA.toNat + 2 * s.enc.levB.toNat + 4 * s.enc.lastPin.code.toNat +
        16 * s.enc.encEn.toNat + 32 * s.enc.idxValid.toNat ∧
      (readImage .encCtrl s).toNat = s.enc.encEn.toNat + 2 * s.enc.idxRstEn.toNat ∧
      (readImage .mcStatus s).toNat = s.mcState.code.toNat + 16 * s.phase.code.toNat ∧
      (readImage .mcFlags s).toNat = s.flags.homed.toNat + 2 * s.flags.pathStarted.toNat +
        4 * s.flags.pathDone.toNat + 8 * s.flags.visStarted.toNat + 16 * s.flags.visDone.toNat +
        32 * s.flags.allDone.toNat + 64 * s.flags.limitLatch.toNat + 128 * s.flags.latchEn.toNat +
        256 * s.setup.kvisSet.toNat ∧
      (readImage .mcOut s).toNat = s.duty.toNat + 256 * s.dir.toNat ∧
      (readImage .mcCfg s).toNat = s.setup.dirNeg.toNat + 2 * s.setup.visBound.toNat ∧
      (readImage .errFlags s).toNat = s.errFlags.toNat) ∧
    (∀ rv ∈ [(Reg.encCount, s.enc.count), (.encIdxLog, s.enc.idxLog), (.pointTarget, s.setup.pointTarget),
        (.span, s.cal.span)], (readImage rv.1 s).toInt = rv.2.toInt) ∧
    (∀ rv ∈ [(Reg.tol, s.setup.tol), (.probeCeil, s.setup.probeCeil), (.slackHiPath, s.setup.slackHiPath),
        (.slackHiVis, s.setup.slackHiVis), (.slackLo, s.setup.slackLo), (.tParam, s.setup.tParam), (.t0, s.t0)],
      (readImage rv.1 s).toNat = rv.2.toNat) ∧
    (∀ rv ∈ [(Reg.minUp, s.setup.minUp), (.minDown, s.setup.minDown), (.homeResult, s.homeResult.code),
        (.runResult, s.runResult.code)], (readImage rv.1 s).toNat = rv.2.toNat) ∧
    (∀ rv ∈ [(Reg.limitWidth, s.setup.limitWidth), (.workspaceWidth, s.setup.workspaceWidth), (.kFf, s.setup.kFf),
        (.kP, s.setup.kP), (.kD, s.setup.kD), (.pwmConst, s.setup.pwmConst), (.kVis, s.setup.kVis)],
      readImage rv.1 s = rv.2) ∧
    (∀ rv ∈ [(Reg.cpm, s.cal.cpm), (.wwCount, s.cal.wwCount), (.limitBuffer, s.cal.limitBuffer)],
      readImage rv.1 s = qImage rv.2) ∧
    (s.MemoryOk → ∀ rv ∈ [(Reg.encN, s.cfg.n), (.encFill, s.mem.hist.length), (.vlen, s.mem.vel.length),
        (.dlen, s.mem.dist.length), (.traceLen, s.mem.trace.length), (.axisId, s.cfg.axis.id.toNat)],
      (readImage rv.1 s).toNat = rv.2)

/-- The legal write values. By type (R365): bits 1:0 only, u8, u32, and s32 as DATA[63:31] all equal; every pattern for the
gains. The two widths (R366): outside the busy states a write is stored exactly when the value is not negative and keeps
WORKSPACE_WIDTH at or below LIMIT_WIDTH, and answers ERR_RANGE otherwise; nothing is recomputed. -/
def Obligations.LegalWriteValues : Prop :=
  ∀ (x : Data) (s : State),
    (∀ r ∈ [Reg.encCtrl, .mcCfg, .errFlags], legalValue r x s = true ↔ x.extractLsb' 2 62 = 0#62) ∧
    (∀ r ∈ [Reg.minUp, .minDown], legalValue r x s = true ↔ x.toNat ≤ 255) ∧
    (∀ r ∈ [Reg.tol, .probeCeil, .slackHiPath, .slackHiVis, .slackLo, .tParam],
      legalValue r x s = true ↔ x.toNat ≤ 2 ^ 32 - 1) ∧
    (legalValue .pointTarget x s = true ↔ x.extractLsb' 31 33 = 0#33 ∨ x.extractLsb' 31 33 = BitVec.allOnes 33) ∧
    (∀ r ∈ [Reg.kFf, .kP, .kD, .pwmConst, .kVis], legalValue r x s = true) ∧
    (s.mcState.isBusy = false →
      (0 ≤ val x → val s.setup.workspaceWidth ≤ val x → exec (.regWr Reg.limitWidth.sel x) s =
        .next { s with setup := { s.setup with limitWidth := x }, rsp := some { status := .ok, data := 0#64 } }) ∧
      (val x < 0 ∨ val x < val s.setup.workspaceWidth → exec (.regWr Reg.limitWidth.sel x) s =
        .next { s with rsp := some { status := .errRange, data := 0#64 } }) ∧
      (0 ≤ val x → val x ≤ val s.setup.limitWidth → exec (.regWr Reg.workspaceWidth.sel x) s =
        .next { s with setup := { s.setup with workspaceWidth := x }, rsp := some { status := .ok, data := 0#64 } }) ∧
      (val x < 0 ∨ val s.setup.limitWidth < val x → exec (.regWr Reg.workspaceWidth.sel x) s =
        .next { s with rsp := some { status := .errRange, data := 0#64 } }))

/-- SP_CLR empties one setpoint memory and SP_PUSH appends to it and answers the new length, outside the busy states; both
answer ERR_BUSY in a busy state and SP_PUSH answers ERR_FULL at SP_MAX entries; a refusal changes nothing (R370, R371). -/
def Obligations.SetpointWrites : Prop :=
  ∀ (m : SpMem) (x : Fixed) (s : State),
    (s.mcState.isBusy = true → ∀ i ∈ [Instr.spClr m, .spPush m x],
      exec i s = .next { s with rsp := some { status := .errBusy, data := 0#64 } }) ∧
    (s.mcState.isBusy = false →
      exec (.spClr m) s = .next { s with
        mem := { s.mem with vel := if m = .vel then [] else s.mem.vel, dist := if m = .dist then [] else s.mem.dist },
        rsp := some { status := .ok, data := 0#64 } } ∧
      ((spWords m s).length = s.cfg.spMax →
        exec (.spPush m x) s = .next { s with rsp := some { status := .errFull, data := 0#64 } }) ∧
      ((spWords m s).length ≠ s.cfg.spMax →
        exec (.spPush m x) s = .next { s with
          mem := { s.mem with vel := if m = .vel then s.mem.vel ++ [x] else s.mem.vel,
                              dist := if m = .dist then s.mem.dist ++ [x] else s.mem.dist },
          rsp := some { status := .ok, data := BitVec.ofNat 64 ((spWords m s).length + 1) } }))

/-- SP_RD answers the word at an index below the length and ERR_INDEX at or beyond it, in every state; the k-th word pushed
after a clear is the one at index k − 1 (R371, R372). -/
def Obligations.SetpointReads : Prop :=
  (∀ (m : SpMem) (i : Nat) (s : State),
    (∀ x : Fixed, (match m with | .vel => s.mem.vel | .dist => s.mem.dist)[i]? = some x →
      exec (.spRd m i) s = .next { s with rsp := some { status := .ok, data := x } }) ∧
    ((match m with | .vel => s.mem.vel | .dist => s.mem.dist).length ≤ i →
      exec (.spRd m i) s = .next { s with rsp := some { status := .errIndex, data := 0#64 } })) ∧
  ∀ (m : SpMem) (xs : List Fixed) (s : State), s.mcState.isBusy = false → xs.length ≤ s.cfg.spMax →
    ∃ t, execAll (pseudoLoad m xs) s = .next t ∧
      ∀ (i : Nat) (x : Fixed), xs[i]? = some x →
        exec (.spRd m i) t = .next { t with rsp := some { status := .ok, data := x } }

/-- TR_RD answers the field of the sample at an index below TRACE_LEN, the two rationals as Q32.32 images, and ERR_INDEX at
or beyond it, in every state (R373). -/
def Obligations.TrRdAnswers : Prop :=
  ∀ (i : Nat) (s : State),
    (∀ x : TraceSample, s.mem.trace[i]? = some x →
      exec (.trRd .ms i) s = .next { s with rsp := some { status := .ok, data := BitVec.ofNat 64 x.ms.toNat } } ∧
      exec (.trRd .pos i) s = .next { s with rsp := some { status := .ok, data := qImage x.pos } } ∧
      exec (.trRd .vel i) s = .next { s with rsp := some { status := .ok, data := qImage x.vel } }) ∧
    (s.mem.trace.length ≤ i → ∀ f : TraceField,
      exec (.trRd f i) s = .next { s with rsp := some { status := .errIndex, data := 0#64 } })

/-! ## The homing sequencer -/

/-- H_ENTRY (R241): the three fatal conditions end the homing with code 2 and zero duty and leave the count; otherwise the
count and START are zeroed and the motor is driven down. -/
def Obligations.HomingEntry : Prop :=
  ∀ s : State, s.mcState = .homing → s.phase = .hEntry →
    (val s.setup.workspaceWidth > val s.setup.limitWidth ∨ val s.setup.limitWidth ≤ 0 ∨
        (s.live.limLo = false ∧ s.live.limHi = false) →
      sequencerStep s =
        .next { s with duty := 0#8, homeResult := .fatal, mcState := .homeFailFatal, phase := .rest }) ∧
    (val s.setup.workspaceWidth ≤ val s.setup.limitWidth → 0 < val s.setup.limitWidth →
        (s.live.limLo = true ∨ s.live.limHi = true) →
      sequencerStep s =
        .next { s with enc := { s.enc with count := 0#32 }, start := 0#32, duty := s.setup.minDown,
                       dir := s.setup.dirNeg, phase := .hProbeDn })

/-- The two probes (R242, R243): a contact of either switch leads to the back-off before the ceiling is looked at; the
ceiling reverses the motor and ends the probe; else the probe goes on. H_BACKOFF (R244): inside TOL of START the homing
ends with code 1 and zero duty; below START it drives up, above it drives down. -/
def Obligations.HomingProbesAndBackoff : Prop :=
  ∀ s : State, s.mcState = .homing →
    (s.phase = .hProbeDn ∨ s.phase = .hProbeUp → s.live.limLo = false ∨ s.live.limHi = false →
      sequencerStep s = .next { s with phase := .hBackoff }) ∧
    (s.live.limLo = true → s.live.limHi = true →
      (s.phase = .hProbeDn → (s.setup.probeCeil.toNat : ℤ) ≤ s.start.toInt - s.enc.count.toInt →
        sequencerStep s =
          .next { s with duty := s.setup.minUp, dir := !s.setup.dirNeg, phase := .hProbeUp }) ∧
      (s.phase = .hProbeDn → s.start.toInt - s.enc.count.toInt < (s.setup.probeCeil.toNat : ℤ) →
        sequencerStep s = .next { s with duty := s.setup.minDown, dir := s.setup.dirNeg }) ∧
      (s.phase = .hProbeUp → (s.setup.probeCeil.toNat : ℤ) ≤ s.enc.count.toInt - s.start.toInt →
        sequencerStep s =
          .next { s with duty := s.setup.minDown, dir := s.setup.dirNeg, phase := .hCleanDn }) ∧
      (s.phase = .hProbeUp → s.enc.count.toInt - s.start.toInt < (s.setup.probeCeil.toNat : ℤ) →
        sequencerStep s = .next { s with duty := s.setup.minUp, dir := !s.setup.dirNeg })) ∧
    (s.phase = .hBackoff → ∀ e : ℤ, e = s.enc.count.toInt - s.start.toInt →
      ((e.natAbs : ℤ) ≤ s.setup.tol.toNat →
        sequencerStep s =
          .next { s with duty := 0#8, homeResult := .recoverable, mcState := .homeFailRec, phase := .rest }) ∧
      ((s.setup.tol.toNat : ℤ) < e.natAbs → e < 0 →
        sequencerStep s = .next { s with duty := s.setup.minUp, dir := !s.setup.dirNeg }) ∧
      ((s.setup.tol.toNat : ℤ) < e.natAbs → 0 < e →
        sequencerStep s = .next { s with duty := s.setup.minDown, dir := s.setup.dirNeg }))

/-- The clean run (R245, R246, R248): a switch counts as found only when two consecutive steps read it low; the lower
confirmation stops the motor and zeroes the count, a high second reading starts over. -/
def Obligations.HomingCleanRun : Prop :=
  ∀ s : State, s.mcState = .homing →
    (s.phase = .hCleanDn → s.live.limLo = false → sequencerStep s = .next { s with phase := .hCleanDnConf }) ∧
    (s.phase = .hCleanDn → s.live.limLo = true →
      sequencerStep s = .next { s with duty := s.setup.minDown, dir := s.setup.dirNeg }) ∧
    (s.phase = .hCleanDnConf → s.live.limLo = false →
      sequencerStep s =
        .next { s with duty := 0#8, enc := { s.enc with count := 0#32 }, phase := .hCleanUp }) ∧
    (s.phase = .hCleanDnConf → s.live.limLo = true →
      sequencerStep s =
        .next { s with duty := s.setup.minDown, dir := s.setup.dirNeg, phase := .hCleanDn }) ∧
    (s.phase = .hCleanUp → s.live.limHi = false → sequencerStep s = .next { s with phase := .hCleanUpConf }) ∧
    (s.phase = .hCleanUp → s.live.limHi = true →
      sequencerStep s = .next { s with duty := s.setup.minUp, dir := !s.setup.dirNeg })

/-- H_CLEAN_UP_CONF (R249, R247): a second low reading stops the motor; a count that is not positive ends the homing with
code 2 and no calibration, a positive count is the span and calibrates exactly; a high reading drives up again. -/
def Obligations.HomingCalibrates : Prop :=
  ∀ s : State, s.mcState = .homing → s.phase = .hCleanUpConf →
    (s.live.limHi = false → s.enc.count.toInt ≤ 0 →
      sequencerStep s =
        .next { s with duty := 0#8, homeResult := .fatal, mcState := .homeFailFatal, phase := .rest }) ∧
    (s.live.limHi = false → 0 < s.enc.count.toInt →
      let cpm : ℚ := (s.enc.count.toInt : ℚ) / val s.setup.limitWidth
      sequencerStep s =
        .next { s with duty := 0#8, phase := .hMoveOff,
                       cal := { span := s.enc.count, cpm := cpm, wwCount := val s.setup.workspaceWidth * cpm,
                                limitBuffer :=
                                  ((s.enc.count.toInt : ℚ) - val s.setup.workspaceWidth * cpm) / 2 } }) ∧
    (s.live.limHi = true →
      sequencerStep s = .next { s with duty := s.setup.minUp, dir := !s.setup.dirNeg, phase := .hCleanUp })

/-- What calibration guarantees (R247): from a positive span and widths with 0 ≤ WORKSPACE_WIDTH ≤ LIMIT_WIDTH and
LIMIT_WIDTH > 0, 0 ≤ WW_COUNT ≤ SPAN, 0 ≤ LIMIT_BUFFER ≤ SPAN / 2 and CPM > 0. -/
def Obligations.CalibrationBounds : Prop :=
  ∀ (c : Setup) (n : S32), 0 < n.toInt → 0 ≤ val c.workspaceWidth → val c.workspaceWidth ≤ val c.limitWidth →
    0 < val c.limitWidth →
    0 < (calibrate c n).cpm ∧ 0 ≤ (calibrate c n).wwCount ∧ (calibrate c n).wwCount ≤ (n.toInt : ℚ) ∧
    0 ≤ (calibrate c n).limitBuffer ∧ (calibrate c n).limitBuffer ≤ (n.toInt : ℚ) / 2

/-- The seek to the workspace origin (R250 to R253): off the upper switch, bang-bang to LIMIT_BUFFER within TOL, two settle
checks, and only the second one zeroes the count, sets HOMED and leaves the homing. -/
def Obligations.HomingSeeksAndSettles : Prop :=
  ∀ s : State, s.mcState = .homing →
    let e : ℚ := (s.enc.count.toInt : ℚ) - s.cal.limitBuffer
    let inside := -(s.setup.tol.toNat : ℚ) ≤ e ∧ e ≤ (s.setup.tol.toNat : ℚ)
    (s.phase = .hMoveOff → s.live.limHi = true → sequencerStep s = .next { s with phase := .hSeek }) ∧
    (s.phase = .hMoveOff → s.live.limHi = false →
      sequencerStep s = .next { s with duty := s.setup.minDown, dir := s.setup.dirNeg }) ∧
    (s.phase = .hSeek → inside → sequencerStep s = .next { s with duty := 0#8, phase := .hSettle1 }) ∧
    (s.phase = .hSeek → ¬ inside → 0 < e →
      sequencerStep s = .next { s with duty := s.setup.minDown, dir := s.setup.dirNeg }) ∧
    (s.phase = .hSeek → ¬ inside → e < 0 →
      sequencerStep s = .next { s with duty := s.setup.minUp, dir := !s.setup.dirNeg }) ∧
    (s.phase = .hSettle1 → inside → sequencerStep s = .next { s with phase := .hSettle2 }) ∧
    (s.phase = .hSettle1 ∨ s.phase = .hSettle2 → ¬ inside → sequencerStep s = .next { s with phase := .hSeek }) ∧
    (s.phase = .hSettle2 → inside → sequencerStep s =
      .next { s with duty := 0#8, enc := { s.enc with count := 0#32 }, flags := { s.flags with homed := true },
                     homeResult := .success, mcState := .homed, phase := .rest })

/-! ## The run sequencer -/

/-- R_WAIT (R301): nothing while (tick − T0) mod 2^32 is 2^31 or more, for then the start tick is still ahead; once it is less
than 2^31 the start tick is reached: latching goes on, the trace is emptied and the loop of the mode is entered with its
started flag. -/
def Obligations.RunWaitsForStartTick : Prop :=
  ∀ s : State, s.mcState ∈ [McState.runOl, .runPdff, .runPdffVis, .runVis, .runPoint] → s.phase = .rWait →
    (2 ^ 31 ≤ (s.live.tick - s.t0).toNat → sequencerStep s = .next s) ∧
    ((s.live.tick - s.t0).toNat < 2 ^ 31 → s.mcState ≠ .runVis →
      sequencerStep s = .next { s with
        flags := { s.flags with latchEn := true, pathStarted := true }, mem := { s.mem with trace := [] },
        lastMs := none, phase := .rSample }) ∧
    ((s.live.tick - s.t0).toNat < 2 ^ 31 → s.mcState = .runVis →
      sequencerStep s = .next { s with
        flags := { s.flags with latchEn := true, visStarted := true }, mem := { s.mem with trace := [] },
        lastMs := none, tv0 := s.t0, phase := .rVSample })

/-- The ends of a path iteration in the order of R305: latch, target reached or playback complete (a handoff in
RUN_PDFF_VIS), workspace violation. `s.runExit` is RunExit (R303), stated by RunExitWrites. -/
def Obligations.PathSampleEnds : Prop :=
  ∀ (s : State) (t : Nat), s.mcState ∈ [McState.runOl, .runPdff, .runPdffVis, .runPoint] → s.phase = .rSample →
    t = (s.live.tick - s.t0).toNat / 1000 →
    let c := s.enc.count.toInt
    let near := s.mcState = .runPoint ∧
      -(s.setup.tol.toNat : ℤ) ≤ c - s.setup.pointTarget.toInt ∧ c - s.setup.pointTarget.toInt ≤ s.setup.tol.toNat
    let played := (s.mcState = .runOl ∧ s.mem.vel.length ≤ t) ∨
      (s.mcState = .runPdff ∧ min s.mem.vel.length s.mem.dist.length ≤ t)
    let handsOff := s.mcState = .runPdffVis ∧ min s.mem.vel.length s.mem.dist.length ≤ t
    let above := s.cal.wwCount + (s.setup.slackHiPath.toNat : ℚ) < (c : ℚ)
    let below := c < -(s.setup.slackLo.toNat : ℤ)
    (s.flags.limitLatch = true → sequencerStep s = .next (s.runExit .abortLatch)) ∧
    (s.flags.limitLatch = false → near → sequencerStep s = .next (s.runExit .reached)) ∧
    (s.flags.limitLatch = false → played → sequencerStep s = .next (s.runExit .complete)) ∧
    (s.flags.limitLatch = false → handsOff → sequencerStep s =
      .next { s with duty := 0#8, pend := none, tv0 := s.live.tick, phase := .rVSample,
                     flags := { s.flags with pathDone := true, visStarted := true } }) ∧
    (s.flags.limitLatch = false → ¬ near → ¬ played → ¬ handsOff → above →
      sequencerStep s = .next (s.runExit .abortWsHigh)) ∧
    (s.flags.limitLatch = false → ¬ near → ¬ played → ¬ handsOff → ¬ above → below →
      sequencerStep s = .next (s.runExit .abortWsLow))

/-- A path iteration that does not end computes, in the one step, the position and the velocity in metres, captures them,
and leaves the law's command in PEND without touching DUTY or DIR (R305, R311, R312, R313, R320). -/
def Obligations.PathSampleIterates : Prop :=
  ∀ (s : State) (t : Nat) (d v : ℚ), s.mcState ∈ [McState.runOl, .runPdff, .runPdffVis, .runPoint] →
    s.phase = .rSample → t = (s.live.tick - s.t0).toNat / 1000 → s.flags.limitLatch = false → s.cal.cpm ≠ 0 →
    -(s.setup.slackLo.toNat : ℤ) ≤ s.enc.count.toInt →
    (s.enc.count.toInt : ℚ) ≤ s.cal.wwCount + (s.setup.slackHiPath.toNat : ℚ) →
    d = (s.enc.count.toInt : ℚ) / s.cal.cpm → v = (cpsValue s.cfg.n s.mem.hist).1 / s.cal.cpm →
    let f : ℚ := if s.setup.dirNeg = true then -1 else 1
    (s.mcState = .runOl → ∀ x, s.mem.vel[t]? = some x →
      sequencerStep s = .next { s.capture t d v with
        phase := .rCommit,
        pend := some { duty := clipDuty (roundAway (val s.setup.pwmConst * f * val x)),
                       dir := decide (0 ≤ val s.setup.pwmConst * f * val x) } }) ∧
    (s.mcState = .runPdff ∨ s.mcState = .runPdffVis → ∀ x y, s.mem.vel[t]? = some x → s.mem.dist[t]? = some y →
      sequencerStep s = .next { s.capture t d v with
        phase := .rCommit,
        pend := some (actuate ((val s.setup.kFf * val x + val s.setup.kP * (val y - d)
          + val s.setup.kD * (val x - v)) * f)) }) ∧
    (s.mcState = .runPoint →
      (s.enc.count.toInt < s.setup.pointTarget.toInt - s.setup.tol.toNat →
        sequencerStep s = .next { s.capture t d v with
          phase := .rCommit, pend := some { duty := s.setup.minUp, dir := !s.setup.dirNeg } }) ∧
      (s.setup.pointTarget.toInt + s.setup.tol.toNat < s.enc.count.toInt →
        sequencerStep s = .next { s.capture t d v with
          phase := .rCommit, pend := some { duty := s.setup.minDown, dir := s.setup.dirNeg } }))

/-- The COMMIT steps (R306, R343): a pending write goes to DUTY and DIR and is spent, no pending write changes neither; the
loop returns to its SAMPLE. -/
def Obligations.CommitWritesPending : Prop :=
  ∀ s : State,
    (s.mcState ∈ [McState.runOl, .runPdff, .runPdffVis, .runPoint] → s.phase = .rCommit →
      (∀ d : Drive, s.pend = some d →
        sequencerStep s = .next { s with duty := d.duty, dir := d.dir, pend := none, phase := .rSample }) ∧
      (s.pend = none → sequencerStep s = .next { s with phase := .rSample })) ∧
    (s.mcState ∈ [McState.runVis, .runPdffVis] → s.phase = .rVCommit →
      (∀ d : Drive, s.pend = some d →
        sequencerStep s = .next { s with duty := d.duty, dir := d.dir, pend := none, phase := .rVSample }) ∧
      (s.pend = none → sequencerStep s = .next { s with phase := .rVSample }))

/-- A vision iteration (R341): latch, then the phase's time, then the workspace with the vision slack; otherwise capture and
the vision law's command, or none, in PEND. -/
def Obligations.VisionSampleSteps : Prop :=
  ∀ (s : State) (t tv : Nat), s.mcState ∈ [McState.runVis, .runPdffVis] → s.phase = .rVSample →
    t = (s.live.tick - s.t0).toNat / 1000 → tv = (s.live.tick - s.tv0).toNat / 1000 →
    let c := s.enc.count.toInt
    let above := s.cal.wwCount + (s.setup.slackHiVis.toNat : ℚ) < (c : ℚ)
    let below := c < -(s.setup.slackLo.toNat : ℤ)
    (s.flags.limitLatch = true → sequencerStep s = .next (s.runExit .abortLatch)) ∧
    (s.flags.limitLatch = false → s.setup.tParam.toNat ≤ tv → sequencerStep s = .next (s.runExit .complete)) ∧
    (s.flags.limitLatch = false → tv < s.setup.tParam.toNat → above →
      sequencerStep s = .next (s.runExit .abortWsHigh)) ∧
    (s.flags.limitLatch = false → tv < s.setup.tParam.toNat → ¬ above → below →
      sequencerStep s = .next (s.runExit .abortWsLow)) ∧
    (s.flags.limitLatch = false → tv < s.setup.tParam.toNat → ¬ above → ¬ below → s.cal.cpm ≠ 0 →
      ∀ d v : ℚ, d = (c : ℚ) / s.cal.cpm → v = (cpsValue s.cfg.n s.mem.hist).1 / s.cal.cpm →
      sequencerStep s = .next { s.capture t d v with phase := .rVCommit, pend := visionLaw d s })

/-- The vision law (R342): zero duty and the kept direction for the sentinel −1; no command for any other demand whose
workspace image is outside [0, WORKSPACE_WIDTH]; else K_VIS times the error plus 50 in the error's sense, through the
output stage. -/
def Obligations.VisionLawCases : Prop :=
  ∀ (s : State) (d : ℚ),
    let r := s.live.vis
    let dd : ℚ := (r.toInt : ℚ) / 2 ^ 32 - s.cal.limitBuffer / s.cal.cpm
    let f : ℚ := if s.setup.dirNeg = true then -1 else 1
    (r.toInt = -2 ^ 32 → visionLaw d s = some { duty := 0#8, dir := s.dir }) ∧
    (r.toInt ≠ -2 ^ 32 → dd < 0 ∨ val s.setup.workspaceWidth < dd → visionLaw d s = none) ∧
    (r.toInt ≠ -2 ^ 32 → 0 ≤ dd → dd ≤ val s.setup.workspaceWidth →
      (d < dd → visionLaw d s = some (actuate ((val s.setup.kVis * (dd - d) + 50) * f))) ∧
      (dd < d → visionLaw d s = some (actuate ((val s.setup.kVis * (dd - d) - 50) * f))) ∧
      (d = dd → visionLaw d s = some { duty := 0#8, dir := true }))

/-- The output stages: Actuate gives the nearest duty to |w|, 255 beyond it, and the direction by the sign of w (R310); the
open-loop stage is the same for w ≥ 0 and gives duty 0 and direction 0 for w < 0 (R311, R462). For a nonzero minimum
duty, DriveUp and DriveDown write what Actuate gives for +MIN_UP and −MIN_DOWN times the direction factor (R240). -/
def Obligations.OutputStages : Prop :=
  (∀ c : Setup,
    let f : ℚ := if c.dirNeg = true then -1 else 1
    (c.minUp ≠ 0#8 → upDrive c = actuate ((c.minUp.toNat : ℚ) * f)) ∧
    (c.minDown ≠ 0#8 → downDrive c = actuate (-(c.minDown.toNat : ℚ) * f))) ∧
  ∀ w : ℚ,
    ((actuate w).dir = true ↔ 0 ≤ w) ∧
    (abs w ≤ 255 → abs (((actuate w).duty.toNat : ℚ) - abs w) ≤ 1 / 2) ∧
    (255 ≤ abs w → (actuate w).duty = 255#8) ∧
    (∀ (s : State) (t : Nat) (x : Fixed), s.mem.vel[t]? = some x →
      w = val s.setup.pwmConst * (if s.setup.dirNeg = true then -1 else 1) * val x →
      (0 ≤ w → openLoop t s = actuate w) ∧ (w < 0 → openLoop t s = { duty := 0#8, dir := false }))

/-- R17 and R18: `round` is within 1/2, ties go away from zero. The Q32.32 image of the value of a pattern is that pattern;
the image of a rational within the range is a pattern at most half a step of 2^-32 away, a tie between two patterns goes away
from zero, and beyond the range the image saturates at 2^63 − 1 and −2^63. -/
def Obligations.RoundingAndImages : Prop :=
  (∀ x : ℚ, abs ((roundAway x : ℚ) - x) ≤ 1 / 2) ∧
  (∀ n : Nat, roundAway ((n : ℚ) + 1 / 2) = (n : ℤ) + 1 ∧ roundAway (-((n : ℚ) + 1 / 2)) = -((n : ℤ) + 1)) ∧
  (∀ r : Fixed, qImage (val r) = r) ∧
  (∀ x : ℚ, -2 ^ 31 ≤ x → x ≤ 2 ^ 31 - 1 / 2 ^ 32 → abs (val (qImage x) - x) ≤ 1 / 2 ^ 33) ∧
  (∀ n : Nat, n + 1 < 2 ^ 63 →
    (qImage (((n : ℚ) + 1 / 2) / 2 ^ 32)).toInt = (n : ℤ) + 1 ∧
    (qImage (-((n : ℚ) + 1 / 2) / 2 ^ 32)).toInt = -((n : ℤ) + 1)) ∧
  ∀ x : ℚ,
    (2 ^ 31 - 1 / 2 ^ 32 ≤ x → (qImage x).toInt = 2 ^ 63 - 1) ∧ (x ≤ -2 ^ 31 → (qImage x).toInt = -2 ^ 63)

/-- The capture (R330): a sample is taken only when the millisecond advances past the latest capture attempt or the loop has
had none; a full trace drops it and sets TRACE_OVF; either way LAST_MS moves. -/
def Obligations.CaptureAdvances : Prop :=
  ∀ (s : State) (t : Nat) (d v : ℚ), t < 2 ^ 32 →
    (∀ m : U32, s.lastMs = some m → t ≤ m.toNat → s.capture t d v = s) ∧
    ((s.lastMs = none ∨ ∃ m : U32, s.lastMs = some m ∧ m.toNat < t) →
      (s.mem.trace.length < s.cfg.traceMax → s.capture t d v =
        { s with lastMs := some (BitVec.ofNat 32 t),
                 mem := { s.mem with
                   trace := s.mem.trace ++ [{ ms := BitVec.ofNat 32 t, pos := d, vel := v }] } }) ∧
      (s.cfg.traceMax ≤ s.mem.trace.length → s.capture t d v =
        { s with lastMs := some (BitVec.ofNat 32 t), errFlags := s.errFlags ||| 2#2 }))

/-- RunExit (R303) in full: zero duty, nothing pending, latching off, the done flag of the phase in progress, ALL_DONE, the
cause, IDLE; the direction, the latch, HOMED and the trace stay. -/
def Obligations.RunExitWrites : Prop :=
  ∀ (s : State) (c : Cause), s.runExit c =
    { s with
      duty := 0#8, pend := none, runResult := .ended c, mcState := .idle, phase := .rest,
      flags := { s.flags with
        latchEn := false, allDone := true,
        pathDone := if s.phase = .rSample ∨ s.phase = .rCommit then true else s.flags.pathDone,
        visDone := if s.phase = .rVSample ∨ s.phase = .rVCommit then true else s.flags.visDone } }

/-- The latch race (R114, R454): a confirmed LIM_EDGE between SAMPLE and COMMIT zeroes the duty at once, the COMMIT in
flight puts its duty back, and the next SAMPLE ends the run with zero duty, whatever the steps sample. -/
def Obligations.LatchRaceOneIteration : Prop :=
  ∀ (s : State) (p : LimPin) (d : Drive) (l2 l3 : Live), s.mcState.isRun = true → s.PhaseOk →
    s.phase = .rCommit ∨ s.phase = .rVCommit → s.pend = some d → s.flags.latchEn = true →
    (match p with | .lo => s.live.limLo | .hi => s.live.limHi) = false →
    ∃ t1 t2 t3, exec (.limEdge p false) s = .next t1 ∧ t1.duty = 0#8 ∧ t1.flags.limitLatch = true ∧
      sequencerStep { t1 with live := l2 } = .next t2 ∧ t2.duty = d.duty ∧ t2.dir = d.dir ∧
      t2.flags.limitLatch = true ∧
      sequencerStep { t2 with live := l3 } = .next t3 ∧ t3.duty = 0#8 ∧ t3.mcState = .idle ∧
      t3.flags.limitLatch = true ∧ t3.flags.allDone = true ∧ t3.runResult = .ended .abortLatch

/-- Workspace safety (R304; the property D00 calls the most safety-critical): a SAMPLE step that sees the count out of bounds
commands zero duty and leaves nothing pending; it ends the run, or, at the end of a RUN_PDFF_VIS playback, hands off to
the vision loop. -/
def Obligations.WorkspaceViolationStops : Prop :=
  ∀ (s : State) (slack : U32), s.mcState.isRun = true → s.PhaseOk →
    (s.phase = .rSample ∧ slack = s.setup.slackHiPath) ∨ (s.phase = .rVSample ∧ slack = s.setup.slackHiVis) →
    s.cal.wwCount + (slack.toNat : ℚ) < (s.enc.count.toInt : ℚ) ∨
      s.enc.count.toInt < -(s.setup.slackLo.toNat : ℤ) →
    ∃ t, sequencerStep s = .next t ∧ t.duty = 0#8 ∧ t.pend = none ∧ t.dir = s.dir ∧
      ((t.mcState = .idle ∧ t.flags.allDone = true) ∨
        (s.mcState = .runPdffVis ∧ s.phase = .rSample ∧ t.mcState = .runPdffVis ∧ t.phase = .rVSample))

/-! ## The whole block -/

/-- Every operation completes: whatever the state and the operands, exec answers a next state (R400, R401: nothing halts the
block), and that state keeps the parameters, the samples and the script. -/
def Obligations.EveryOperationCompletes : Prop :=
  ∀ (i : Instr) (s : State), ∃ t, exec i s = .next t ∧ t.cfg = s.cfg ∧ t.live = s.live ∧ t.script = s.script ∧
    t.turnNo = s.turnNo ∧ (i.port = .evt → t.rsp = s.rsp) ∧ (i.port = .cmd → t.rsp ≠ none)

/-- STATUS has the fourteen values of R400's table and no other (R134, R400). A command that answers a failure status has
changed nothing but the response, and carries no data (R400). -/
def Obligations.FailedCommandsChangeNothing : Prop :=
  (∀ st : Status, (st, st.code.toNat) ∈ [(Status.ok, 0x00), (.okDegenerate, 0x01), (.errIllegal, 0x10),
    (.errState, 0x11), (.errRange, 0x12), (.errBusy, 0x13), (.errFull, 0x14), (.errIndex, 0x15), (.errRo, 0x16),
    (.errUnmapped, 0x17), (.errNotHomed, 0x20), (.errNoSetpoints, 0x21), (.errNoVgain, 0x22), (.errNoVbind, 0x23)]) ∧
  ∀ (i : Instr) (s t : State) (r : Response), i.port = .cmd → exec i s = .next t → t.rsp = some r →
    r.status ≠ .ok → r.status ≠ .okDegenerate → r.data = 0#64 ∧ t = { s with rsp := some r }

/-- MC_STATE changes only along the rows of R200's table, for the cause each row names: the command with its preconditions,
the last settle check, HomeFail(1), HomeFail(2), RunExit, STOP or reset. -/
def Obligations.StateMachineTransitions : Prop :=
  ∀ s t : State, step s = .next t → t.mcState ≠ s.mcState →
    McRow (nextStimulus s).turn s.presented t

/-- The count changes only by one at an ENC_EDGE, or to zero by ENC_RESET, an index edge, reset, or a homing step of the
phase H_ENTRY, H_CLEAN_DN_CONF or H_SETTLE2 (R30, with the rules R241, R246 and R253 it names). -/
def Obligations.CountChangesOnlyBy : Prop :=
  ∀ s t : State, step s = .next t → t.enc.count ≠ s.enc.count →
    ((t.enc.count = s.enc.count + 1#32 ∨ t.enc.count = s.enc.count - 1#32) ∧
      ∃ p k, isTurnOf (.encEdge p true k) (nextStimulus s).turn) ∨
    (t.enc.count = 0#32 ∧ ((nextStimulus s).turn = .reset ∨ isTurnOf .encReset (nextStimulus s).turn ∨
      (∃ k, isTurnOf (.idxEdge true k) (nextStimulus s).turn) ∨
      ((nextStimulus s).turn = .sequencer ∧ s.mcState = .homing ∧
        s.phase ∈ [Phase.hEntry, .hCleanDnConf, .hSettle2])))

/-- A run or a homing uses one configuration and one set of setpoints from its first step to its last: while busy, no step
but reset changes them (R115, R363). -/
def Obligations.ConfigurationFrozenWhileBusy : Prop :=
  ∀ s t : State, step s = .next t → s.mcState.isBusy = true → (nextStimulus s).turn ≠ .reset →
    t.setup = s.setup ∧ t.mem.vel = s.mem.vel ∧ t.mem.dist = s.mem.dist

/-- No step lets a memory exceed its capacity, and no step changes the parameters (R33, R60, R61, R76). -/
def Obligations.StepKeepsMemoryForm : Prop :=
  ∀ s t : State, s.MemoryOk → step s = .next t → t.MemoryOk ∧ t.cfg = s.cfg

/-- The block never stops and stays safe: from a state with the invariant, whatever the stimulus, a step answers a next state
and that state has the invariant: PHASE fits MC_STATE, the motor is off outside busy states, runs are homed with CPM > 0,
PEND lives only between SAMPLE and COMMIT, the captured milliseconds increase, the widths and the capacities hold
(R41, R52, R57, R71, R330, R401, R402, R403). -/
def Obligations.StepTotalAndKeepsInvariant : Prop :=
  ∀ s : State, s.Inv → ∃ t, step s = .next t ∧ t.Inv

/-- The invariant holds right after reset, for every instance with legal parameters (R440). -/
def Obligations.ResetHasInvariant : Prop :=
  (∀ c : Config, c.wf → (State.resetOf c).Inv) ∧ State.reset.Inv

end
end

