-- ==== Sys2Proof/Laws/Numbers.lean ====
section
/-!
SUPPORT. The order of Q32.32 patterns, rounding of integers, and the ranges of clips and elapsed times.
-/

namespace Sys2Proof.Machine

/-! ## Q32.32 (R18) -/

theorem val_le_val {a b : Fixed} : val a ≤ val b ↔ a.toInt ≤ b.toInt := by
  unfold val
  rw [div_le_div_iff_of_pos_right (by norm_num)]
  exact_mod_cast Iff.rfl

theorem val_lt_val {a b : Fixed} : val a < val b ↔ a.toInt < b.toInt := by
  rw [← not_le, val_le_val, not_le]

theorem val_nonneg {a : Fixed} : 0 ≤ val a ↔ 0 ≤ a.toInt := by
  unfold val
  rw [le_div_iff₀ (by norm_num), zero_mul]
  exact_mod_cast Iff.rfl

theorem val_pos {a : Fixed} : 0 < val a ↔ 0 < a.toInt := by
  unfold val
  rw [lt_div_iff₀ (by norm_num), zero_mul]
  exact_mod_cast Iff.rfl

theorem val_nonpos {a : Fixed} : val a ≤ 0 ↔ a.toInt ≤ 0 := by
  rw [← not_lt, val_pos, not_lt]

theorem val_neg {a : Fixed} : val a < 0 ↔ a.toInt < 0 := by
  rw [← not_le, val_nonneg, not_le]

@[simp] theorem val_zero : val 0#64 = 0 := by simp [val]

/-! ## Rounding (R17) -/

@[simp] theorem sgn_zero : sgn 0 = 0 := rfl

theorem sgn_of_pos {x : ℚ} (h : 0 < x) : sgn x = 1 := by
  simp [sgn, not_lt.mpr h.le, h.ne']

theorem sgn_of_neg {x : ℚ} (h : x < 0) : sgn x = -1 := by
  simp [sgn, h]

@[simp] theorem roundAway_zero : roundAway 0 = 0 := by simp [roundAway]

theorem roundAway_of_nonneg {x : ℚ} (h : 0 ≤ x) : roundAway x = ⌊x + 1 / 2⌋ := by
  rcases h.eq_or_lt with rfl | h
  · simp [roundAway]; norm_num
  · rw [roundAway, sgn_of_pos h, abs_of_pos h, one_mul]

theorem roundAway_neg (x : ℚ) : roundAway (-x) = -roundAway x := by
  rcases lt_trichotomy x 0 with h | rfl | h
  · simp [roundAway, sgn_of_neg h, sgn_of_pos (neg_pos.mpr h)]
  · simp
  · simp [roundAway, sgn_of_pos h, sgn_of_neg (neg_neg_of_pos h)]

theorem roundAway_intCast (n : ℤ) : roundAway (n : ℚ) = n := by
  have key : ∀ m : ℤ, 0 ≤ m → roundAway (m : ℚ) = m := by
    intro m hm
    rw [roundAway_of_nonneg (by exact_mod_cast hm), Int.floor_eq_iff]
    constructor <;> linarith
  rcases le_total 0 n with h | h
  · exact key n h
  · have := key (-n) (by omega)
    rw [Int.cast_neg, roundAway_neg] at this
    omega

theorem roundAway_nonneg {x : ℚ} (h : 0 ≤ x) : 0 ≤ roundAway x := by
  rw [roundAway_of_nonneg h]
  exact Int.floor_nonneg.mpr (by linarith)

/-! ## Clips (R17) -/

theorem clip_of_mem {v lo hi : ℤ} (h1 : lo ≤ v) (h2 : v ≤ hi) : clip v lo hi = v := by
  simp [clip, h1, h2]

theorem clip_bounds {v lo hi : ℤ} (h : lo ≤ hi) : lo ≤ clip v lo hi ∧ clip v lo hi ≤ hi := by
  unfold clip; omega

theorem clipDuty_toNat (v : ℤ) : ((clipDuty v).toNat : ℤ) = clip v 0 255 := by
  have h := clip_bounds (v := v) (lo := 0) (hi := 255) (by norm_num)
  unfold clipDuty
  rw [BitVec.toNat_ofInt]
  omega

theorem clipDuty_of_nonpos {v : ℤ} (h : v ≤ 0) : clipDuty v = 0#8 := by
  simp [clipDuty, clip, h]

theorem clipDuty_of_ge {v : ℤ} (h : 255 ≤ v) : clipDuty v = 255#8 := by
  simp [clipDuty, clip, h]

theorem clipDuty_toNat_cast (d : U8) : clipDuty (d.toNat : ℤ) = d := by
  have h := d.isLt
  unfold clipDuty
  rw [clip_of_mem (by omega) (by omega)]
  simp

/-! ## Counts and ticks (R19, R302) -/

theorem wrapAdd_one (c : S32) : wrapAdd c 1 = c + 1#32 := by
  simp [wrapAdd, BitVec.ofInt_add]

theorem wrapAdd_neg_one (c : S32) : wrapAdd c (-1) = c - 1#32 := by
  simp [wrapAdd, BitVec.ofInt_add, BitVec.sub_eq_add_neg]

/-- R302: elapsed milliseconds lie in 0 to 4294967. -/
theorem elapsedMs_le (a b : Tick) : elapsedMs a b ≤ 4294967 := by
  have := (a - b).isLt
  unfold elapsedMs udiff32
  omega

theorem elapsedMs_lt (a b : Tick) : elapsedMs a b < 2 ^ 32 := by
  have := elapsedMs_le a b
  omega

theorem elapsedMs_toNat (a b : Tick) : (BitVec.ofNat 32 (elapsedMs a b)).toNat = elapsedMs a b := by
  rw [BitVec.toNat_ofNat]
  exact Nat.mod_eq_of_lt (elapsedMs_lt a b)

end Sys2Proof.Machine
end

