-- ==== Sys2Proof/Laws/State.lean ====
section
/-!
SUPPORT. One lemma for each field of State and each named update of it, true by definition, so that no proof unfolds a
record update; after them what acceptEdge, capture and commit leave alone.
-/

namespace Sys2Proof.Machine

/-! ### withRsp -/

@[simp] theorem State.withRsp_enc (s : State) (st : Status) (d : Data) : (s.withRsp st d).enc = s.enc := rfl
@[simp] theorem State.withRsp_mem (s : State) (st : Status) (d : Data) : (s.withRsp st d).mem = s.mem := rfl
@[simp] theorem State.withRsp_mcState (s : State) (st : Status) (d : Data) : (s.withRsp st d).mcState = s.mcState := rfl
@[simp] theorem State.withRsp_phase (s : State) (st : Status) (d : Data) : (s.withRsp st d).phase = s.phase := rfl
@[simp] theorem State.withRsp_flags (s : State) (st : Status) (d : Data) : (s.withRsp st d).flags = s.flags := rfl
@[simp] theorem State.withRsp_duty (s : State) (st : Status) (d : Data) : (s.withRsp st d).duty = s.duty := rfl
@[simp] theorem State.withRsp_dir (s : State) (st : Status) (d : Data) : (s.withRsp st d).dir = s.dir := rfl
@[simp] theorem State.withRsp_setup (s : State) (st : Status) (d : Data) : (s.withRsp st d).setup = s.setup := rfl
@[simp] theorem State.withRsp_cal (s : State) (st : Status) (d : Data) : (s.withRsp st d).cal = s.cal := rfl
@[simp] theorem State.withRsp_lastMs (s : State) (st : Status) (d : Data) : (s.withRsp st d).lastMs = s.lastMs := rfl
@[simp] theorem State.withRsp_homeResult (s : State) (st : Status) (d : Data) : (s.withRsp st d).homeResult = s.homeResult := rfl
@[simp] theorem State.withRsp_runResult (s : State) (st : Status) (d : Data) : (s.withRsp st d).runResult = s.runResult := rfl
@[simp] theorem State.withRsp_errFlags (s : State) (st : Status) (d : Data) : (s.withRsp st d).errFlags = s.errFlags := rfl
@[simp] theorem State.withRsp_t0 (s : State) (st : Status) (d : Data) : (s.withRsp st d).t0 = s.t0 := rfl
@[simp] theorem State.withRsp_tv0 (s : State) (st : Status) (d : Data) : (s.withRsp st d).tv0 = s.tv0 := rfl
@[simp] theorem State.withRsp_pend (s : State) (st : Status) (d : Data) : (s.withRsp st d).pend = s.pend := rfl
@[simp] theorem State.withRsp_start (s : State) (st : Status) (d : Data) : (s.withRsp st d).start = s.start := rfl
@[simp] theorem State.withRsp_cfg (s : State) (st : Status) (d : Data) : (s.withRsp st d).cfg = s.cfg := rfl
@[simp] theorem State.withRsp_live (s : State) (st : Status) (d : Data) : (s.withRsp st d).live = s.live := rfl
@[simp] theorem State.withRsp_rsp (s : State) (st : Status) (d : Data) : (s.withRsp st d).rsp = some { status := st, data := d } := rfl
@[simp] theorem State.withRsp_script (s : State) (st : Status) (d : Data) : (s.withRsp st d).script = s.script := rfl
@[simp] theorem State.withRsp_turnNo (s : State) (st : Status) (d : Data) : (s.withRsp st d).turnNo = s.turnNo := rfl

/-! ### zeroCount -/

@[simp] theorem State.zeroCount_enc (s : State) : s.zeroCount.enc = { s.enc with count := 0#32 } := rfl
@[simp] theorem State.zeroCount_mem (s : State) : s.zeroCount.mem = s.mem := rfl
@[simp] theorem State.zeroCount_mcState (s : State) : s.zeroCount.mcState = s.mcState := rfl
@[simp] theorem State.zeroCount_phase (s : State) : s.zeroCount.phase = s.phase := rfl
@[simp] theorem State.zeroCount_flags (s : State) : s.zeroCount.flags = s.flags := rfl
@[simp] theorem State.zeroCount_duty (s : State) : s.zeroCount.duty = s.duty := rfl
@[simp] theorem State.zeroCount_dir (s : State) : s.zeroCount.dir = s.dir := rfl
@[simp] theorem State.zeroCount_setup (s : State) : s.zeroCount.setup = s.setup := rfl
@[simp] theorem State.zeroCount_cal (s : State) : s.zeroCount.cal = s.cal := rfl
@[simp] theorem State.zeroCount_lastMs (s : State) : s.zeroCount.lastMs = s.lastMs := rfl
@[simp] theorem State.zeroCount_homeResult (s : State) : s.zeroCount.homeResult = s.homeResult := rfl
@[simp] theorem State.zeroCount_runResult (s : State) : s.zeroCount.runResult = s.runResult := rfl
@[simp] theorem State.zeroCount_errFlags (s : State) : s.zeroCount.errFlags = s.errFlags := rfl
@[simp] theorem State.zeroCount_t0 (s : State) : s.zeroCount.t0 = s.t0 := rfl
@[simp] theorem State.zeroCount_tv0 (s : State) : s.zeroCount.tv0 = s.tv0 := rfl
@[simp] theorem State.zeroCount_pend (s : State) : s.zeroCount.pend = s.pend := rfl
@[simp] theorem State.zeroCount_start (s : State) : s.zeroCount.start = s.start := rfl
@[simp] theorem State.zeroCount_cfg (s : State) : s.zeroCount.cfg = s.cfg := rfl
@[simp] theorem State.zeroCount_live (s : State) : s.zeroCount.live = s.live := rfl
@[simp] theorem State.zeroCount_rsp (s : State) : s.zeroCount.rsp = s.rsp := rfl
@[simp] theorem State.zeroCount_script (s : State) : s.zeroCount.script = s.script := rfl
@[simp] theorem State.zeroCount_turnNo (s : State) : s.zeroCount.turnNo = s.turnNo := rfl

/-! ### drive -/

@[simp] theorem State.drive_enc (s : State) (d : Drive) : (s.drive d).enc = s.enc := rfl
@[simp] theorem State.drive_mem (s : State) (d : Drive) : (s.drive d).mem = s.mem := rfl
@[simp] theorem State.drive_mcState (s : State) (d : Drive) : (s.drive d).mcState = s.mcState := rfl
@[simp] theorem State.drive_phase (s : State) (d : Drive) : (s.drive d).phase = s.phase := rfl
@[simp] theorem State.drive_flags (s : State) (d : Drive) : (s.drive d).flags = s.flags := rfl
@[simp] theorem State.drive_duty (s : State) (d : Drive) : (s.drive d).duty = d.duty := rfl
@[simp] theorem State.drive_dir (s : State) (d : Drive) : (s.drive d).dir = d.dir := rfl
@[simp] theorem State.drive_setup (s : State) (d : Drive) : (s.drive d).setup = s.setup := rfl
@[simp] theorem State.drive_cal (s : State) (d : Drive) : (s.drive d).cal = s.cal := rfl
@[simp] theorem State.drive_lastMs (s : State) (d : Drive) : (s.drive d).lastMs = s.lastMs := rfl
@[simp] theorem State.drive_homeResult (s : State) (d : Drive) : (s.drive d).homeResult = s.homeResult := rfl
@[simp] theorem State.drive_runResult (s : State) (d : Drive) : (s.drive d).runResult = s.runResult := rfl
@[simp] theorem State.drive_errFlags (s : State) (d : Drive) : (s.drive d).errFlags = s.errFlags := rfl
@[simp] theorem State.drive_t0 (s : State) (d : Drive) : (s.drive d).t0 = s.t0 := rfl
@[simp] theorem State.drive_tv0 (s : State) (d : Drive) : (s.drive d).tv0 = s.tv0 := rfl
@[simp] theorem State.drive_pend (s : State) (d : Drive) : (s.drive d).pend = s.pend := rfl
@[simp] theorem State.drive_start (s : State) (d : Drive) : (s.drive d).start = s.start := rfl
@[simp] theorem State.drive_cfg (s : State) (d : Drive) : (s.drive d).cfg = s.cfg := rfl
@[simp] theorem State.drive_live (s : State) (d : Drive) : (s.drive d).live = s.live := rfl
@[simp] theorem State.drive_rsp (s : State) (d : Drive) : (s.drive d).rsp = s.rsp := rfl
@[simp] theorem State.drive_script (s : State) (d : Drive) : (s.drive d).script = s.script := rfl
@[simp] theorem State.drive_turnNo (s : State) (d : Drive) : (s.drive d).turnNo = s.turnNo := rfl

/-! ### stopMotor -/

@[simp] theorem State.stopMotor_enc (s : State) : s.stopMotor.enc = s.enc := rfl
@[simp] theorem State.stopMotor_mem (s : State) : s.stopMotor.mem = s.mem := rfl
@[simp] theorem State.stopMotor_mcState (s : State) : s.stopMotor.mcState = s.mcState := rfl
@[simp] theorem State.stopMotor_phase (s : State) : s.stopMotor.phase = s.phase := rfl
@[simp] theorem State.stopMotor_flags (s : State) : s.stopMotor.flags = s.flags := rfl
@[simp] theorem State.stopMotor_duty (s : State) : s.stopMotor.duty = 0#8 := rfl
@[simp] theorem State.stopMotor_dir (s : State) : s.stopMotor.dir = s.dir := rfl
@[simp] theorem State.stopMotor_setup (s : State) : s.stopMotor.setup = s.setup := rfl
@[simp] theorem State.stopMotor_cal (s : State) : s.stopMotor.cal = s.cal := rfl
@[simp] theorem State.stopMotor_lastMs (s : State) : s.stopMotor.lastMs = s.lastMs := rfl
@[simp] theorem State.stopMotor_homeResult (s : State) : s.stopMotor.homeResult = s.homeResult := rfl
@[simp] theorem State.stopMotor_runResult (s : State) : s.stopMotor.runResult = s.runResult := rfl
@[simp] theorem State.stopMotor_errFlags (s : State) : s.stopMotor.errFlags = s.errFlags := rfl
@[simp] theorem State.stopMotor_t0 (s : State) : s.stopMotor.t0 = s.t0 := rfl
@[simp] theorem State.stopMotor_tv0 (s : State) : s.stopMotor.tv0 = s.tv0 := rfl
@[simp] theorem State.stopMotor_pend (s : State) : s.stopMotor.pend = s.pend := rfl
@[simp] theorem State.stopMotor_start (s : State) : s.stopMotor.start = s.start := rfl
@[simp] theorem State.stopMotor_cfg (s : State) : s.stopMotor.cfg = s.cfg := rfl
@[simp] theorem State.stopMotor_live (s : State) : s.stopMotor.live = s.live := rfl
@[simp] theorem State.stopMotor_rsp (s : State) : s.stopMotor.rsp = s.rsp := rfl
@[simp] theorem State.stopMotor_script (s : State) : s.stopMotor.script = s.script := rfl
@[simp] theorem State.stopMotor_turnNo (s : State) : s.stopMotor.turnNo = s.turnNo := rfl

/-! ### goto -/

@[simp] theorem State.goto_enc (s : State) (p : Phase) : (s.goto p).enc = s.enc := rfl
@[simp] theorem State.goto_mem (s : State) (p : Phase) : (s.goto p).mem = s.mem := rfl
@[simp] theorem State.goto_mcState (s : State) (p : Phase) : (s.goto p).mcState = s.mcState := rfl
@[simp] theorem State.goto_phase (s : State) (p : Phase) : (s.goto p).phase = p := rfl
@[simp] theorem State.goto_flags (s : State) (p : Phase) : (s.goto p).flags = s.flags := rfl
@[simp] theorem State.goto_duty (s : State) (p : Phase) : (s.goto p).duty = s.duty := rfl
@[simp] theorem State.goto_dir (s : State) (p : Phase) : (s.goto p).dir = s.dir := rfl
@[simp] theorem State.goto_setup (s : State) (p : Phase) : (s.goto p).setup = s.setup := rfl
@[simp] theorem State.goto_cal (s : State) (p : Phase) : (s.goto p).cal = s.cal := rfl
@[simp] theorem State.goto_lastMs (s : State) (p : Phase) : (s.goto p).lastMs = s.lastMs := rfl
@[simp] theorem State.goto_homeResult (s : State) (p : Phase) : (s.goto p).homeResult = s.homeResult := rfl
@[simp] theorem State.goto_runResult (s : State) (p : Phase) : (s.goto p).runResult = s.runResult := rfl
@[simp] theorem State.goto_errFlags (s : State) (p : Phase) : (s.goto p).errFlags = s.errFlags := rfl
@[simp] theorem State.goto_t0 (s : State) (p : Phase) : (s.goto p).t0 = s.t0 := rfl
@[simp] theorem State.goto_tv0 (s : State) (p : Phase) : (s.goto p).tv0 = s.tv0 := rfl
@[simp] theorem State.goto_pend (s : State) (p : Phase) : (s.goto p).pend = s.pend := rfl
@[simp] theorem State.goto_start (s : State) (p : Phase) : (s.goto p).start = s.start := rfl
@[simp] theorem State.goto_cfg (s : State) (p : Phase) : (s.goto p).cfg = s.cfg := rfl
@[simp] theorem State.goto_live (s : State) (p : Phase) : (s.goto p).live = s.live := rfl
@[simp] theorem State.goto_rsp (s : State) (p : Phase) : (s.goto p).rsp = s.rsp := rfl
@[simp] theorem State.goto_script (s : State) (p : Phase) : (s.goto p).script = s.script := rfl
@[simp] theorem State.goto_turnNo (s : State) (p : Phase) : (s.goto p).turnNo = s.turnNo := rfl

/-! ### setErr -/

@[simp] theorem State.setErr_enc (s : State) (b : BitVec 2) : (s.setErr b).enc = s.enc := rfl
@[simp] theorem State.setErr_mem (s : State) (b : BitVec 2) : (s.setErr b).mem = s.mem := rfl
@[simp] theorem State.setErr_mcState (s : State) (b : BitVec 2) : (s.setErr b).mcState = s.mcState := rfl
@[simp] theorem State.setErr_phase (s : State) (b : BitVec 2) : (s.setErr b).phase = s.phase := rfl
@[simp] theorem State.setErr_flags (s : State) (b : BitVec 2) : (s.setErr b).flags = s.flags := rfl
@[simp] theorem State.setErr_duty (s : State) (b : BitVec 2) : (s.setErr b).duty = s.duty := rfl
@[simp] theorem State.setErr_dir (s : State) (b : BitVec 2) : (s.setErr b).dir = s.dir := rfl
@[simp] theorem State.setErr_setup (s : State) (b : BitVec 2) : (s.setErr b).setup = s.setup := rfl
@[simp] theorem State.setErr_cal (s : State) (b : BitVec 2) : (s.setErr b).cal = s.cal := rfl
@[simp] theorem State.setErr_lastMs (s : State) (b : BitVec 2) : (s.setErr b).lastMs = s.lastMs := rfl
@[simp] theorem State.setErr_homeResult (s : State) (b : BitVec 2) : (s.setErr b).homeResult = s.homeResult := rfl
@[simp] theorem State.setErr_runResult (s : State) (b : BitVec 2) : (s.setErr b).runResult = s.runResult := rfl
@[simp] theorem State.setErr_errFlags (s : State) (b : BitVec 2) : (s.setErr b).errFlags = s.errFlags ||| b := rfl
@[simp] theorem State.setErr_t0 (s : State) (b : BitVec 2) : (s.setErr b).t0 = s.t0 := rfl
@[simp] theorem State.setErr_tv0 (s : State) (b : BitVec 2) : (s.setErr b).tv0 = s.tv0 := rfl
@[simp] theorem State.setErr_pend (s : State) (b : BitVec 2) : (s.setErr b).pend = s.pend := rfl
@[simp] theorem State.setErr_start (s : State) (b : BitVec 2) : (s.setErr b).start = s.start := rfl
@[simp] theorem State.setErr_cfg (s : State) (b : BitVec 2) : (s.setErr b).cfg = s.cfg := rfl
@[simp] theorem State.setErr_live (s : State) (b : BitVec 2) : (s.setErr b).live = s.live := rfl
@[simp] theorem State.setErr_rsp (s : State) (b : BitVec 2) : (s.setErr b).rsp = s.rsp := rfl
@[simp] theorem State.setErr_script (s : State) (b : BitVec 2) : (s.setErr b).script = s.script := rfl
@[simp] theorem State.setErr_turnNo (s : State) (b : BitVec 2) : (s.setErr b).turnNo = s.turnNo := rfl

/-! ### clearErr -/

@[simp] theorem State.clearErr_enc (s : State) (x : Data) : (s.clearErr x).enc = s.enc := rfl
@[simp] theorem State.clearErr_mem (s : State) (x : Data) : (s.clearErr x).mem = s.mem := rfl
@[simp] theorem State.clearErr_mcState (s : State) (x : Data) : (s.clearErr x).mcState = s.mcState := rfl
@[simp] theorem State.clearErr_phase (s : State) (x : Data) : (s.clearErr x).phase = s.phase := rfl
@[simp] theorem State.clearErr_flags (s : State) (x : Data) : (s.clearErr x).flags = s.flags := rfl
@[simp] theorem State.clearErr_duty (s : State) (x : Data) : (s.clearErr x).duty = s.duty := rfl
@[simp] theorem State.clearErr_dir (s : State) (x : Data) : (s.clearErr x).dir = s.dir := rfl
@[simp] theorem State.clearErr_setup (s : State) (x : Data) : (s.clearErr x).setup = s.setup := rfl
@[simp] theorem State.clearErr_cal (s : State) (x : Data) : (s.clearErr x).cal = s.cal := rfl
@[simp] theorem State.clearErr_lastMs (s : State) (x : Data) : (s.clearErr x).lastMs = s.lastMs := rfl
@[simp] theorem State.clearErr_homeResult (s : State) (x : Data) : (s.clearErr x).homeResult = s.homeResult := rfl
@[simp] theorem State.clearErr_runResult (s : State) (x : Data) : (s.clearErr x).runResult = s.runResult := rfl
@[simp] theorem State.clearErr_errFlags (s : State) (x : Data) : (s.clearErr x).errFlags = s.errFlags &&& ~~~(x.setWidth 2) := rfl
@[simp] theorem State.clearErr_t0 (s : State) (x : Data) : (s.clearErr x).t0 = s.t0 := rfl
@[simp] theorem State.clearErr_tv0 (s : State) (x : Data) : (s.clearErr x).tv0 = s.tv0 := rfl
@[simp] theorem State.clearErr_pend (s : State) (x : Data) : (s.clearErr x).pend = s.pend := rfl
@[simp] theorem State.clearErr_start (s : State) (x : Data) : (s.clearErr x).start = s.start := rfl
@[simp] theorem State.clearErr_cfg (s : State) (x : Data) : (s.clearErr x).cfg = s.cfg := rfl
@[simp] theorem State.clearErr_live (s : State) (x : Data) : (s.clearErr x).live = s.live := rfl
@[simp] theorem State.clearErr_rsp (s : State) (x : Data) : (s.clearErr x).rsp = s.rsp := rfl
@[simp] theorem State.clearErr_script (s : State) (x : Data) : (s.clearErr x).script = s.script := rfl
@[simp] theorem State.clearErr_turnNo (s : State) (x : Data) : (s.clearErr x).turnNo = s.turnNo := rfl

/-! ### homeFailRec -/

@[simp] theorem State.homeFailRec_enc (s : State) : s.homeFailRec.enc = s.enc := rfl
@[simp] theorem State.homeFailRec_mem (s : State) : s.homeFailRec.mem = s.mem := rfl
@[simp] theorem State.homeFailRec_mcState (s : State) : s.homeFailRec.mcState = .homeFailRec := rfl
@[simp] theorem State.homeFailRec_phase (s : State) : s.homeFailRec.phase = .rest := rfl
@[simp] theorem State.homeFailRec_flags (s : State) : s.homeFailRec.flags = s.flags := rfl
@[simp] theorem State.homeFailRec_duty (s : State) : s.homeFailRec.duty = 0#8 := rfl
@[simp] theorem State.homeFailRec_dir (s : State) : s.homeFailRec.dir = s.dir := rfl
@[simp] theorem State.homeFailRec_setup (s : State) : s.homeFailRec.setup = s.setup := rfl
@[simp] theorem State.homeFailRec_cal (s : State) : s.homeFailRec.cal = s.cal := rfl
@[simp] theorem State.homeFailRec_lastMs (s : State) : s.homeFailRec.lastMs = s.lastMs := rfl
@[simp] theorem State.homeFailRec_homeResult (s : State) : s.homeFailRec.homeResult = .recoverable := rfl
@[simp] theorem State.homeFailRec_runResult (s : State) : s.homeFailRec.runResult = s.runResult := rfl
@[simp] theorem State.homeFailRec_errFlags (s : State) : s.homeFailRec.errFlags = s.errFlags := rfl
@[simp] theorem State.homeFailRec_t0 (s : State) : s.homeFailRec.t0 = s.t0 := rfl
@[simp] theorem State.homeFailRec_tv0 (s : State) : s.homeFailRec.tv0 = s.tv0 := rfl
@[simp] theorem State.homeFailRec_pend (s : State) : s.homeFailRec.pend = s.pend := rfl
@[simp] theorem State.homeFailRec_start (s : State) : s.homeFailRec.start = s.start := rfl
@[simp] theorem State.homeFailRec_cfg (s : State) : s.homeFailRec.cfg = s.cfg := rfl
@[simp] theorem State.homeFailRec_live (s : State) : s.homeFailRec.live = s.live := rfl
@[simp] theorem State.homeFailRec_rsp (s : State) : s.homeFailRec.rsp = s.rsp := rfl
@[simp] theorem State.homeFailRec_script (s : State) : s.homeFailRec.script = s.script := rfl
@[simp] theorem State.homeFailRec_turnNo (s : State) : s.homeFailRec.turnNo = s.turnNo := rfl

/-! ### homeFailFatal -/

@[simp] theorem State.homeFailFatal_enc (s : State) : s.homeFailFatal.enc = s.enc := rfl
@[simp] theorem State.homeFailFatal_mem (s : State) : s.homeFailFatal.mem = s.mem := rfl
@[simp] theorem State.homeFailFatal_mcState (s : State) : s.homeFailFatal.mcState = .homeFailFatal := rfl
@[simp] theorem State.homeFailFatal_phase (s : State) : s.homeFailFatal.phase = .rest := rfl
@[simp] theorem State.homeFailFatal_flags (s : State) : s.homeFailFatal.flags = s.flags := rfl
@[simp] theorem State.homeFailFatal_duty (s : State) : s.homeFailFatal.duty = 0#8 := rfl
@[simp] theorem State.homeFailFatal_dir (s : State) : s.homeFailFatal.dir = s.dir := rfl
@[simp] theorem State.homeFailFatal_setup (s : State) : s.homeFailFatal.setup = s.setup := rfl
@[simp] theorem State.homeFailFatal_cal (s : State) : s.homeFailFatal.cal = s.cal := rfl
@[simp] theorem State.homeFailFatal_lastMs (s : State) : s.homeFailFatal.lastMs = s.lastMs := rfl
@[simp] theorem State.homeFailFatal_homeResult (s : State) : s.homeFailFatal.homeResult = .fatal := rfl
@[simp] theorem State.homeFailFatal_runResult (s : State) : s.homeFailFatal.runResult = s.runResult := rfl
@[simp] theorem State.homeFailFatal_errFlags (s : State) : s.homeFailFatal.errFlags = s.errFlags := rfl
@[simp] theorem State.homeFailFatal_t0 (s : State) : s.homeFailFatal.t0 = s.t0 := rfl
@[simp] theorem State.homeFailFatal_tv0 (s : State) : s.homeFailFatal.tv0 = s.tv0 := rfl
@[simp] theorem State.homeFailFatal_pend (s : State) : s.homeFailFatal.pend = s.pend := rfl
@[simp] theorem State.homeFailFatal_start (s : State) : s.homeFailFatal.start = s.start := rfl
@[simp] theorem State.homeFailFatal_cfg (s : State) : s.homeFailFatal.cfg = s.cfg := rfl
@[simp] theorem State.homeFailFatal_live (s : State) : s.homeFailFatal.live = s.live := rfl
@[simp] theorem State.homeFailFatal_rsp (s : State) : s.homeFailFatal.rsp = s.rsp := rfl
@[simp] theorem State.homeFailFatal_script (s : State) : s.homeFailFatal.script = s.script := rfl
@[simp] theorem State.homeFailFatal_turnNo (s : State) : s.homeFailFatal.turnNo = s.turnNo := rfl

/-! ### runExit -/

@[simp] theorem State.runExit_enc (s : State) (c : Cause) : (s.runExit c).enc = s.enc := rfl
@[simp] theorem State.runExit_mem (s : State) (c : Cause) : (s.runExit c).mem = s.mem := rfl
@[simp] theorem State.runExit_mcState (s : State) (c : Cause) : (s.runExit c).mcState = .idle := rfl
@[simp] theorem State.runExit_phase (s : State) (c : Cause) : (s.runExit c).phase = .rest := rfl
@[simp] theorem State.runExit_flags (s : State) (c : Cause) : (s.runExit c).flags = s.flags.endRun s.phase := rfl
@[simp] theorem State.runExit_duty (s : State) (c : Cause) : (s.runExit c).duty = 0#8 := rfl
@[simp] theorem State.runExit_dir (s : State) (c : Cause) : (s.runExit c).dir = s.dir := rfl
@[simp] theorem State.runExit_setup (s : State) (c : Cause) : (s.runExit c).setup = s.setup := rfl
@[simp] theorem State.runExit_cal (s : State) (c : Cause) : (s.runExit c).cal = s.cal := rfl
@[simp] theorem State.runExit_lastMs (s : State) (c : Cause) : (s.runExit c).lastMs = s.lastMs := rfl
@[simp] theorem State.runExit_homeResult (s : State) (c : Cause) : (s.runExit c).homeResult = s.homeResult := rfl
@[simp] theorem State.runExit_runResult (s : State) (c : Cause) : (s.runExit c).runResult = .ended c := rfl
@[simp] theorem State.runExit_errFlags (s : State) (c : Cause) : (s.runExit c).errFlags = s.errFlags := rfl
@[simp] theorem State.runExit_t0 (s : State) (c : Cause) : (s.runExit c).t0 = s.t0 := rfl
@[simp] theorem State.runExit_tv0 (s : State) (c : Cause) : (s.runExit c).tv0 = s.tv0 := rfl
@[simp] theorem State.runExit_pend (s : State) (c : Cause) : (s.runExit c).pend = none := rfl
@[simp] theorem State.runExit_start (s : State) (c : Cause) : (s.runExit c).start = s.start := rfl
@[simp] theorem State.runExit_cfg (s : State) (c : Cause) : (s.runExit c).cfg = s.cfg := rfl
@[simp] theorem State.runExit_live (s : State) (c : Cause) : (s.runExit c).live = s.live := rfl
@[simp] theorem State.runExit_rsp (s : State) (c : Cause) : (s.runExit c).rsp = s.rsp := rfl
@[simp] theorem State.runExit_script (s : State) (c : Cause) : (s.runExit c).script = s.script := rfl
@[simp] theorem State.runExit_turnNo (s : State) (c : Cause) : (s.runExit c).turnNo = s.turnNo := rfl

/-! ### runAccepted -/

@[simp] theorem State.runAccepted_enc (s : State) (m : McState) (t : Tick) : (s.runAccepted m t).enc = s.enc := rfl
@[simp] theorem State.runAccepted_mem (s : State) (m : McState) (t : Tick) : (s.runAccepted m t).mem = s.mem := rfl
@[simp] theorem State.runAccepted_mcState (s : State) (m : McState) (t : Tick) : (s.runAccepted m t).mcState = m := rfl
@[simp] theorem State.runAccepted_phase (s : State) (m : McState) (t : Tick) : (s.runAccepted m t).phase = .rWait := rfl
@[simp] theorem State.runAccepted_flags (s : State) (m : McState) (t : Tick) : (s.runAccepted m t).flags = s.flags.clearRun := rfl
@[simp] theorem State.runAccepted_duty (s : State) (m : McState) (t : Tick) : (s.runAccepted m t).duty = s.duty := rfl
@[simp] theorem State.runAccepted_dir (s : State) (m : McState) (t : Tick) : (s.runAccepted m t).dir = s.dir := rfl
@[simp] theorem State.runAccepted_setup (s : State) (m : McState) (t : Tick) : (s.runAccepted m t).setup = s.setup := rfl
@[simp] theorem State.runAccepted_cal (s : State) (m : McState) (t : Tick) : (s.runAccepted m t).cal = s.cal := rfl
@[simp] theorem State.runAccepted_lastMs (s : State) (m : McState) (t : Tick) : (s.runAccepted m t).lastMs = s.lastMs := rfl
@[simp] theorem State.runAccepted_homeResult (s : State) (m : McState) (t : Tick) : (s.runAccepted m t).homeResult = s.homeResult := rfl
@[simp] theorem State.runAccepted_runResult (s : State) (m : McState) (t : Tick) : (s.runAccepted m t).runResult = .inProgress := rfl
@[simp] theorem State.runAccepted_errFlags (s : State) (m : McState) (t : Tick) : (s.runAccepted m t).errFlags = s.errFlags := rfl
@[simp] theorem State.runAccepted_t0 (s : State) (m : McState) (t : Tick) : (s.runAccepted m t).t0 = t := rfl
@[simp] theorem State.runAccepted_tv0 (s : State) (m : McState) (t : Tick) : (s.runAccepted m t).tv0 = s.tv0 := rfl
@[simp] theorem State.runAccepted_pend (s : State) (m : McState) (t : Tick) : (s.runAccepted m t).pend = none := rfl
@[simp] theorem State.runAccepted_start (s : State) (m : McState) (t : Tick) : (s.runAccepted m t).start = s.start := rfl
@[simp] theorem State.runAccepted_cfg (s : State) (m : McState) (t : Tick) : (s.runAccepted m t).cfg = s.cfg := rfl
@[simp] theorem State.runAccepted_live (s : State) (m : McState) (t : Tick) : (s.runAccepted m t).live = s.live := rfl
@[simp] theorem State.runAccepted_rsp (s : State) (m : McState) (t : Tick) : (s.runAccepted m t).rsp = s.rsp := rfl
@[simp] theorem State.runAccepted_script (s : State) (m : McState) (t : Tick) : (s.runAccepted m t).script = s.script := rfl
@[simp] theorem State.runAccepted_turnNo (s : State) (m : McState) (t : Tick) : (s.runAccepted m t).turnNo = s.turnNo := rfl

/-! ### visEntry -/

@[simp] theorem State.visEntry_enc (s : State) (o : Tick) : (s.visEntry o).enc = s.enc := rfl
@[simp] theorem State.visEntry_mem (s : State) (o : Tick) : (s.visEntry o).mem = s.mem := rfl
@[simp] theorem State.visEntry_mcState (s : State) (o : Tick) : (s.visEntry o).mcState = s.mcState := rfl
@[simp] theorem State.visEntry_phase (s : State) (o : Tick) : (s.visEntry o).phase = s.phase := rfl
@[simp] theorem State.visEntry_flags (s : State) (o : Tick) : (s.visEntry o).flags = { s.flags with visStarted := true } := rfl
@[simp] theorem State.visEntry_duty (s : State) (o : Tick) : (s.visEntry o).duty = s.duty := rfl
@[simp] theorem State.visEntry_dir (s : State) (o : Tick) : (s.visEntry o).dir = s.dir := rfl
@[simp] theorem State.visEntry_setup (s : State) (o : Tick) : (s.visEntry o).setup = s.setup := rfl
@[simp] theorem State.visEntry_cal (s : State) (o : Tick) : (s.visEntry o).cal = s.cal := rfl
@[simp] theorem State.visEntry_lastMs (s : State) (o : Tick) : (s.visEntry o).lastMs = s.lastMs := rfl
@[simp] theorem State.visEntry_homeResult (s : State) (o : Tick) : (s.visEntry o).homeResult = s.homeResult := rfl
@[simp] theorem State.visEntry_runResult (s : State) (o : Tick) : (s.visEntry o).runResult = s.runResult := rfl
@[simp] theorem State.visEntry_errFlags (s : State) (o : Tick) : (s.visEntry o).errFlags = s.errFlags := rfl
@[simp] theorem State.visEntry_t0 (s : State) (o : Tick) : (s.visEntry o).t0 = s.t0 := rfl
@[simp] theorem State.visEntry_tv0 (s : State) (o : Tick) : (s.visEntry o).tv0 = o := rfl
@[simp] theorem State.visEntry_pend (s : State) (o : Tick) : (s.visEntry o).pend = s.pend := rfl
@[simp] theorem State.visEntry_start (s : State) (o : Tick) : (s.visEntry o).start = s.start := rfl
@[simp] theorem State.visEntry_cfg (s : State) (o : Tick) : (s.visEntry o).cfg = s.cfg := rfl
@[simp] theorem State.visEntry_live (s : State) (o : Tick) : (s.visEntry o).live = s.live := rfl
@[simp] theorem State.visEntry_rsp (s : State) (o : Tick) : (s.visEntry o).rsp = s.rsp := rfl
@[simp] theorem State.visEntry_script (s : State) (o : Tick) : (s.visEntry o).script = s.script := rfl
@[simp] theorem State.visEntry_turnNo (s : State) (o : Tick) : (s.visEntry o).turnNo = s.turnNo := rfl

/-! ### handoff -/

@[simp] theorem State.handoff_enc (s : State) (n : Tick) : (s.handoff n).enc = s.enc := rfl
@[simp] theorem State.handoff_mem (s : State) (n : Tick) : (s.handoff n).mem = s.mem := rfl
@[simp] theorem State.handoff_mcState (s : State) (n : Tick) : (s.handoff n).mcState = s.mcState := rfl
@[simp] theorem State.handoff_phase (s : State) (n : Tick) : (s.handoff n).phase = .rVSample := rfl
@[simp] theorem State.handoff_flags (s : State) (n : Tick) : (s.handoff n).flags = { s.flags with pathDone := true, visStarted := true } := rfl
@[simp] theorem State.handoff_duty (s : State) (n : Tick) : (s.handoff n).duty = 0#8 := rfl
@[simp] theorem State.handoff_dir (s : State) (n : Tick) : (s.handoff n).dir = s.dir := rfl
@[simp] theorem State.handoff_setup (s : State) (n : Tick) : (s.handoff n).setup = s.setup := rfl
@[simp] theorem State.handoff_cal (s : State) (n : Tick) : (s.handoff n).cal = s.cal := rfl
@[simp] theorem State.handoff_lastMs (s : State) (n : Tick) : (s.handoff n).lastMs = s.lastMs := rfl
@[simp] theorem State.handoff_homeResult (s : State) (n : Tick) : (s.handoff n).homeResult = s.homeResult := rfl
@[simp] theorem State.handoff_runResult (s : State) (n : Tick) : (s.handoff n).runResult = s.runResult := rfl
@[simp] theorem State.handoff_errFlags (s : State) (n : Tick) : (s.handoff n).errFlags = s.errFlags := rfl
@[simp] theorem State.handoff_t0 (s : State) (n : Tick) : (s.handoff n).t0 = s.t0 := rfl
@[simp] theorem State.handoff_tv0 (s : State) (n : Tick) : (s.handoff n).tv0 = n := rfl
@[simp] theorem State.handoff_pend (s : State) (n : Tick) : (s.handoff n).pend = none := rfl
@[simp] theorem State.handoff_start (s : State) (n : Tick) : (s.handoff n).start = s.start := rfl
@[simp] theorem State.handoff_cfg (s : State) (n : Tick) : (s.handoff n).cfg = s.cfg := rfl
@[simp] theorem State.handoff_live (s : State) (n : Tick) : (s.handoff n).live = s.live := rfl
@[simp] theorem State.handoff_rsp (s : State) (n : Tick) : (s.handoff n).rsp = s.rsp := rfl
@[simp] theorem State.handoff_script (s : State) (n : Tick) : (s.handoff n).script = s.script := rfl
@[simp] theorem State.handoff_turnNo (s : State) (n : Tick) : (s.handoff n).turnNo = s.turnNo := rfl

/-! ### loopEntry -/

@[simp] theorem State.loopEntry_enc (s : State) : s.loopEntry.enc = s.enc := rfl
@[simp] theorem State.loopEntry_mem (s : State) : s.loopEntry.mem = { s.mem with trace := [] } := rfl
@[simp] theorem State.loopEntry_mcState (s : State) : s.loopEntry.mcState = s.mcState := rfl
@[simp] theorem State.loopEntry_phase (s : State) : s.loopEntry.phase = s.phase := rfl
@[simp] theorem State.loopEntry_flags (s : State) : s.loopEntry.flags = { s.flags with latchEn := true } := rfl
@[simp] theorem State.loopEntry_duty (s : State) : s.loopEntry.duty = s.duty := rfl
@[simp] theorem State.loopEntry_dir (s : State) : s.loopEntry.dir = s.dir := rfl
@[simp] theorem State.loopEntry_setup (s : State) : s.loopEntry.setup = s.setup := rfl
@[simp] theorem State.loopEntry_cal (s : State) : s.loopEntry.cal = s.cal := rfl
@[simp] theorem State.loopEntry_lastMs (s : State) : s.loopEntry.lastMs = none := rfl
@[simp] theorem State.loopEntry_homeResult (s : State) : s.loopEntry.homeResult = s.homeResult := rfl
@[simp] theorem State.loopEntry_runResult (s : State) : s.loopEntry.runResult = s.runResult := rfl
@[simp] theorem State.loopEntry_errFlags (s : State) : s.loopEntry.errFlags = s.errFlags := rfl
@[simp] theorem State.loopEntry_t0 (s : State) : s.loopEntry.t0 = s.t0 := rfl
@[simp] theorem State.loopEntry_tv0 (s : State) : s.loopEntry.tv0 = s.tv0 := rfl
@[simp] theorem State.loopEntry_pend (s : State) : s.loopEntry.pend = s.pend := rfl
@[simp] theorem State.loopEntry_start (s : State) : s.loopEntry.start = s.start := rfl
@[simp] theorem State.loopEntry_cfg (s : State) : s.loopEntry.cfg = s.cfg := rfl
@[simp] theorem State.loopEntry_live (s : State) : s.loopEntry.live = s.live := rfl
@[simp] theorem State.loopEntry_rsp (s : State) : s.loopEntry.rsp = s.rsp := rfl
@[simp] theorem State.loopEntry_script (s : State) : s.loopEntry.script = s.script := rfl
@[simp] theorem State.loopEntry_turnNo (s : State) : s.loopEntry.turnNo = s.turnNo := rfl

/-! ### homingDone -/

@[simp] theorem State.homingDone_enc (s : State) : s.homingDone.enc = { s.enc with count := 0#32 } := rfl
@[simp] theorem State.homingDone_mem (s : State) : s.homingDone.mem = s.mem := rfl
@[simp] theorem State.homingDone_mcState (s : State) : s.homingDone.mcState = .homed := rfl
@[simp] theorem State.homingDone_phase (s : State) : s.homingDone.phase = .rest := rfl
@[simp] theorem State.homingDone_flags (s : State) : s.homingDone.flags = { s.flags with homed := true } := rfl
@[simp] theorem State.homingDone_duty (s : State) : s.homingDone.duty = 0#8 := rfl
@[simp] theorem State.homingDone_dir (s : State) : s.homingDone.dir = s.dir := rfl
@[simp] theorem State.homingDone_setup (s : State) : s.homingDone.setup = s.setup := rfl
@[simp] theorem State.homingDone_cal (s : State) : s.homingDone.cal = s.cal := rfl
@[simp] theorem State.homingDone_lastMs (s : State) : s.homingDone.lastMs = s.lastMs := rfl
@[simp] theorem State.homingDone_homeResult (s : State) : s.homingDone.homeResult = .success := rfl
@[simp] theorem State.homingDone_runResult (s : State) : s.homingDone.runResult = s.runResult := rfl
@[simp] theorem State.homingDone_errFlags (s : State) : s.homingDone.errFlags = s.errFlags := rfl
@[simp] theorem State.homingDone_t0 (s : State) : s.homingDone.t0 = s.t0 := rfl
@[simp] theorem State.homingDone_tv0 (s : State) : s.homingDone.tv0 = s.tv0 := rfl
@[simp] theorem State.homingDone_pend (s : State) : s.homingDone.pend = s.pend := rfl
@[simp] theorem State.homingDone_start (s : State) : s.homingDone.start = s.start := rfl
@[simp] theorem State.homingDone_cfg (s : State) : s.homingDone.cfg = s.cfg := rfl
@[simp] theorem State.homingDone_live (s : State) : s.homingDone.live = s.live := rfl
@[simp] theorem State.homingDone_rsp (s : State) : s.homingDone.rsp = s.rsp := rfl
@[simp] theorem State.homingDone_script (s : State) : s.homingDone.script = s.script := rfl
@[simp] theorem State.homingDone_turnNo (s : State) : s.homingDone.turnNo = s.turnNo := rfl

/-! ### acceptEdge -/

@[simp] theorem acceptEdge_mcState (p : QPin) (l : Bool) (k : Tick) (s : State) : (acceptEdge p l k s).mcState = s.mcState := rfl
@[simp] theorem acceptEdge_phase (p : QPin) (l : Bool) (k : Tick) (s : State) : (acceptEdge p l k s).phase = s.phase := rfl
@[simp] theorem acceptEdge_flags (p : QPin) (l : Bool) (k : Tick) (s : State) : (acceptEdge p l k s).flags = s.flags := rfl
@[simp] theorem acceptEdge_duty (p : QPin) (l : Bool) (k : Tick) (s : State) : (acceptEdge p l k s).duty = s.duty := rfl
@[simp] theorem acceptEdge_dir (p : QPin) (l : Bool) (k : Tick) (s : State) : (acceptEdge p l k s).dir = s.dir := rfl
@[simp] theorem acceptEdge_setup (p : QPin) (l : Bool) (k : Tick) (s : State) : (acceptEdge p l k s).setup = s.setup := rfl
@[simp] theorem acceptEdge_cal (p : QPin) (l : Bool) (k : Tick) (s : State) : (acceptEdge p l k s).cal = s.cal := rfl
@[simp] theorem acceptEdge_lastMs (p : QPin) (l : Bool) (k : Tick) (s : State) : (acceptEdge p l k s).lastMs = s.lastMs := rfl
@[simp] theorem acceptEdge_homeResult (p : QPin) (l : Bool) (k : Tick) (s : State) : (acceptEdge p l k s).homeResult = s.homeResult := rfl
@[simp] theorem acceptEdge_runResult (p : QPin) (l : Bool) (k : Tick) (s : State) : (acceptEdge p l k s).runResult = s.runResult := rfl
@[simp] theorem acceptEdge_errFlags (p : QPin) (l : Bool) (k : Tick) (s : State) : (acceptEdge p l k s).errFlags = s.errFlags := rfl
@[simp] theorem acceptEdge_t0 (p : QPin) (l : Bool) (k : Tick) (s : State) : (acceptEdge p l k s).t0 = s.t0 := rfl
@[simp] theorem acceptEdge_tv0 (p : QPin) (l : Bool) (k : Tick) (s : State) : (acceptEdge p l k s).tv0 = s.tv0 := rfl
@[simp] theorem acceptEdge_pend (p : QPin) (l : Bool) (k : Tick) (s : State) : (acceptEdge p l k s).pend = s.pend := rfl
@[simp] theorem acceptEdge_start (p : QPin) (l : Bool) (k : Tick) (s : State) : (acceptEdge p l k s).start = s.start := rfl
@[simp] theorem acceptEdge_cfg (p : QPin) (l : Bool) (k : Tick) (s : State) : (acceptEdge p l k s).cfg = s.cfg := rfl
@[simp] theorem acceptEdge_live (p : QPin) (l : Bool) (k : Tick) (s : State) : (acceptEdge p l k s).live = s.live := rfl
@[simp] theorem acceptEdge_rsp (p : QPin) (l : Bool) (k : Tick) (s : State) : (acceptEdge p l k s).rsp = s.rsp := rfl
@[simp] theorem acceptEdge_script (p : QPin) (l : Bool) (k : Tick) (s : State) : (acceptEdge p l k s).script = s.script := rfl
@[simp] theorem acceptEdge_turnNo (p : QPin) (l : Bool) (k : Tick) (s : State) : (acceptEdge p l k s).turnNo = s.turnNo := rfl

/-! ### capture -/

@[simp] theorem State.capture_enc (s : State) (t : Nat) (d v : ℚ) : (s.capture t d v).enc = s.enc := by
  unfold State.capture; split <;> (try split) <;> rfl
@[simp] theorem State.capture_mcState (s : State) (t : Nat) (d v : ℚ) : (s.capture t d v).mcState = s.mcState := by
  unfold State.capture; split <;> (try split) <;> rfl
@[simp] theorem State.capture_phase (s : State) (t : Nat) (d v : ℚ) : (s.capture t d v).phase = s.phase := by
  unfold State.capture; split <;> (try split) <;> rfl
@[simp] theorem State.capture_flags (s : State) (t : Nat) (d v : ℚ) : (s.capture t d v).flags = s.flags := by
  unfold State.capture; split <;> (try split) <;> rfl
@[simp] theorem State.capture_duty (s : State) (t : Nat) (d v : ℚ) : (s.capture t d v).duty = s.duty := by
  unfold State.capture; split <;> (try split) <;> rfl
@[simp] theorem State.capture_dir (s : State) (t : Nat) (d v : ℚ) : (s.capture t d v).dir = s.dir := by
  unfold State.capture; split <;> (try split) <;> rfl
@[simp] theorem State.capture_setup (s : State) (t : Nat) (d v : ℚ) : (s.capture t d v).setup = s.setup := by
  unfold State.capture; split <;> (try split) <;> rfl
@[simp] theorem State.capture_cal (s : State) (t : Nat) (d v : ℚ) : (s.capture t d v).cal = s.cal := by
  unfold State.capture; split <;> (try split) <;> rfl
@[simp] theorem State.capture_homeResult (s : State) (t : Nat) (d v : ℚ) : (s.capture t d v).homeResult = s.homeResult := by
  unfold State.capture; split <;> (try split) <;> rfl
@[simp] theorem State.capture_runResult (s : State) (t : Nat) (d v : ℚ) : (s.capture t d v).runResult = s.runResult := by
  unfold State.capture; split <;> (try split) <;> rfl
@[simp] theorem State.capture_t0 (s : State) (t : Nat) (d v : ℚ) : (s.capture t d v).t0 = s.t0 := by
  unfold State.capture; split <;> (try split) <;> rfl
@[simp] theorem State.capture_tv0 (s : State) (t : Nat) (d v : ℚ) : (s.capture t d v).tv0 = s.tv0 := by
  unfold State.capture; split <;> (try split) <;> rfl
@[simp] theorem State.capture_pend (s : State) (t : Nat) (d v : ℚ) : (s.capture t d v).pend = s.pend := by
  unfold State.capture; split <;> (try split) <;> rfl
@[simp] theorem State.capture_start (s : State) (t : Nat) (d v : ℚ) : (s.capture t d v).start = s.start := by
  unfold State.capture; split <;> (try split) <;> rfl
@[simp] theorem State.capture_cfg (s : State) (t : Nat) (d v : ℚ) : (s.capture t d v).cfg = s.cfg := by
  unfold State.capture; split <;> (try split) <;> rfl
@[simp] theorem State.capture_live (s : State) (t : Nat) (d v : ℚ) : (s.capture t d v).live = s.live := by
  unfold State.capture; split <;> (try split) <;> rfl
@[simp] theorem State.capture_rsp (s : State) (t : Nat) (d v : ℚ) : (s.capture t d v).rsp = s.rsp := by
  unfold State.capture; split <;> (try split) <;> rfl
@[simp] theorem State.capture_script (s : State) (t : Nat) (d v : ℚ) : (s.capture t d v).script = s.script := by
  unfold State.capture; split <;> (try split) <;> rfl
@[simp] theorem State.capture_turnNo (s : State) (t : Nat) (d v : ℚ) : (s.capture t d v).turnNo = s.turnNo := by
  unfold State.capture; split <;> (try split) <;> rfl

/-! ### commit -/

@[simp] theorem State.commit_enc (s : State) : s.commit.enc = s.enc := by
  unfold State.commit; split <;> rfl
@[simp] theorem State.commit_mem (s : State) : s.commit.mem = s.mem := by
  unfold State.commit; split <;> rfl
@[simp] theorem State.commit_mcState (s : State) : s.commit.mcState = s.mcState := by
  unfold State.commit; split <;> rfl
@[simp] theorem State.commit_phase (s : State) : s.commit.phase = s.phase := by
  unfold State.commit; split <;> rfl
@[simp] theorem State.commit_flags (s : State) : s.commit.flags = s.flags := by
  unfold State.commit; split <;> rfl
@[simp] theorem State.commit_setup (s : State) : s.commit.setup = s.setup := by
  unfold State.commit; split <;> rfl
@[simp] theorem State.commit_cal (s : State) : s.commit.cal = s.cal := by
  unfold State.commit; split <;> rfl
@[simp] theorem State.commit_lastMs (s : State) : s.commit.lastMs = s.lastMs := by
  unfold State.commit; split <;> rfl
@[simp] theorem State.commit_homeResult (s : State) : s.commit.homeResult = s.homeResult := by
  unfold State.commit; split <;> rfl
@[simp] theorem State.commit_runResult (s : State) : s.commit.runResult = s.runResult := by
  unfold State.commit; split <;> rfl
@[simp] theorem State.commit_errFlags (s : State) : s.commit.errFlags = s.errFlags := by
  unfold State.commit; split <;> rfl
@[simp] theorem State.commit_t0 (s : State) : s.commit.t0 = s.t0 := by
  unfold State.commit; split <;> rfl
@[simp] theorem State.commit_tv0 (s : State) : s.commit.tv0 = s.tv0 := by
  unfold State.commit; split <;> rfl
@[simp] theorem State.commit_start (s : State) : s.commit.start = s.start := by
  unfold State.commit; split <;> rfl
@[simp] theorem State.commit_cfg (s : State) : s.commit.cfg = s.cfg := by
  unfold State.commit; split <;> rfl
@[simp] theorem State.commit_live (s : State) : s.commit.live = s.live := by
  unfold State.commit; split <;> rfl
@[simp] theorem State.commit_rsp (s : State) : s.commit.rsp = s.rsp := by
  unfold State.commit; split <;> rfl
@[simp] theorem State.commit_script (s : State) : s.commit.script = s.script := by
  unfold State.commit; split <;> rfl
@[simp] theorem State.commit_turnNo (s : State) : s.commit.turnNo = s.turnNo := by
  unfold State.commit; split <;> rfl

/-! ### setSp -/

@[simp] theorem State.setSp_enc (s : State) (m : SpMem) (ws : List Fixed) : (s.setSp m ws).enc = s.enc := by
  cases m <;> rfl
@[simp] theorem State.setSp_mcState (s : State) (m : SpMem) (ws : List Fixed) : (s.setSp m ws).mcState = s.mcState := by
  cases m <;> rfl
@[simp] theorem State.setSp_phase (s : State) (m : SpMem) (ws : List Fixed) : (s.setSp m ws).phase = s.phase := by
  cases m <;> rfl
@[simp] theorem State.setSp_flags (s : State) (m : SpMem) (ws : List Fixed) : (s.setSp m ws).flags = s.flags := by
  cases m <;> rfl
@[simp] theorem State.setSp_duty (s : State) (m : SpMem) (ws : List Fixed) : (s.setSp m ws).duty = s.duty := by
  cases m <;> rfl
@[simp] theorem State.setSp_dir (s : State) (m : SpMem) (ws : List Fixed) : (s.setSp m ws).dir = s.dir := by
  cases m <;> rfl
@[simp] theorem State.setSp_setup (s : State) (m : SpMem) (ws : List Fixed) : (s.setSp m ws).setup = s.setup := by
  cases m <;> rfl
@[simp] theorem State.setSp_cal (s : State) (m : SpMem) (ws : List Fixed) : (s.setSp m ws).cal = s.cal := by
  cases m <;> rfl
@[simp] theorem State.setSp_lastMs (s : State) (m : SpMem) (ws : List Fixed) : (s.setSp m ws).lastMs = s.lastMs := by
  cases m <;> rfl
@[simp] theorem State.setSp_homeResult (s : State) (m : SpMem) (ws : List Fixed) : (s.setSp m ws).homeResult = s.homeResult := by
  cases m <;> rfl
@[simp] theorem State.setSp_runResult (s : State) (m : SpMem) (ws : List Fixed) : (s.setSp m ws).runResult = s.runResult := by
  cases m <;> rfl
@[simp] theorem State.setSp_errFlags (s : State) (m : SpMem) (ws : List Fixed) : (s.setSp m ws).errFlags = s.errFlags := by
  cases m <;> rfl
@[simp] theorem State.setSp_t0 (s : State) (m : SpMem) (ws : List Fixed) : (s.setSp m ws).t0 = s.t0 := by
  cases m <;> rfl
@[simp] theorem State.setSp_tv0 (s : State) (m : SpMem) (ws : List Fixed) : (s.setSp m ws).tv0 = s.tv0 := by
  cases m <;> rfl
@[simp] theorem State.setSp_pend (s : State) (m : SpMem) (ws : List Fixed) : (s.setSp m ws).pend = s.pend := by
  cases m <;> rfl
@[simp] theorem State.setSp_start (s : State) (m : SpMem) (ws : List Fixed) : (s.setSp m ws).start = s.start := by
  cases m <;> rfl
@[simp] theorem State.setSp_cfg (s : State) (m : SpMem) (ws : List Fixed) : (s.setSp m ws).cfg = s.cfg := by
  cases m <;> rfl
@[simp] theorem State.setSp_live (s : State) (m : SpMem) (ws : List Fixed) : (s.setSp m ws).live = s.live := by
  cases m <;> rfl
@[simp] theorem State.setSp_rsp (s : State) (m : SpMem) (ws : List Fixed) : (s.setSp m ws).rsp = s.rsp := by
  cases m <;> rfl
@[simp] theorem State.setSp_script (s : State) (m : SpMem) (ws : List Fixed) : (s.setSp m ws).script = s.script := by
  cases m <;> rfl
@[simp] theorem State.setSp_turnNo (s : State) (m : SpMem) (ws : List Fixed) : (s.setSp m ws).turnNo = s.turnNo := by
  cases m <;> rfl

/-! ### driveUp, driveDown -/

@[simp] theorem State.driveUp_eq (s : State) : s.driveUp = s.drive (upDrive s.setup) := rfl
@[simp] theorem State.driveDown_eq (s : State) : s.driveDown = s.drive (downDrive s.setup) := rfl

/-! ### The next stimulus -/

@[simp] theorem State.presented_cons (s : State) (x : Stimulus) (xs : List Stimulus) (h : s.script = x :: xs) :
    s.presented = { s with live := x.live, rsp := none, script := xs } := by
  simp [State.presented, h]

@[simp] theorem nextStimulus_cons (s : State) (x : Stimulus) (xs : List Stimulus) (h : s.script = x :: xs) :
    nextStimulus s = x := by
  simp [nextStimulus, h]

/-- Presenting a stimulus changes only the samples, the response port, the script and the counter of free stimuli. -/
theorem State.presented_eq (s : State) :
    ∃ l sc n, s.presented = { s with live := l, rsp := none, script := sc, turnNo := n } := by
  unfold State.presented
  split
  · exact ⟨_, _, _, rfl⟩
  · exact ⟨_, _, _, rfl⟩

end Sys2Proof.Machine
end

