-- ==== Sys2Proof/Laws/Ops.lean ====
section
/-!
SUPPORT. For each shared operation, one lemma that says once everything it can do.
-/

namespace Sys2Proof.Machine

/-! ## Answers -/

theorem respond_eq_next {st : Status} {d : Data} {s t : State} :
    respond st d s = .next t ↔ t = s.withRsp st d := by
  simp [respond, eq_comm]

theorem drop_eq_next {s t : State} : drop s = .next t ↔ t = s := by
  simp [drop, eq_comm]

/-! ## Live samples (R255) -/

theorem active_eq_true {p : LimPin} {s : State} : active p s = true ↔ pinRead p s = false := by
  simp [active]

@[simp] theorem pinRead_lo (s : State) : pinRead .lo s = s.live.limLo := rfl
@[simp] theorem pinRead_hi (s : State) : pinRead .hi s = s.live.limHi := rfl

/-! ## The encoder (R160 to R164) -/

/-- R164: after an append the history is not empty and still within its capacity. -/
theorem histAppend_length (n : Nat) (k : Tick) (c : S32) (h : List HistSample) (hn : 0 < n) :
    (histAppend n k c h).length = if h.length = n then n else h.length + 1 := by
  unfold histAppend
  split
  · simp; omega
  · simp

theorem histAppend_wf (n : Nat) (k : Tick) (c : S32) (h : List HistSample) (hn : 0 < n) (hh : h.length ≤ n) :
    (histAppend n k c h).length ≤ n := by
  rw [histAppend_length n k c h hn]
  split <;> omega

/-- R163: an accepted edge adds one, subtracts one or leaves the count. -/
theorem edgeCount_cases (p : QPin) (l other : Bool) (c : S32) :
    (l = true ∧ other = true ∧ p = .a ∧ edgeCount p l other c = c + 1#32) ∨
    (l = true ∧ other = true ∧ p = .b ∧ edgeCount p l other c = c - 1#32) ∨
    ((l = false ∨ other = false) ∧ edgeCount p l other c = c) := by
  cases p <;> cases l <;> cases other <;> simp [edgeCount, wrapAdd_one, wrapAdd_neg_one]

/-- What an accepted edge does to the encoder (R161 to R163). -/
theorem acceptEdge_enc (p : QPin) (l : Bool) (k : Tick) (s : State) :
    (acceptEdge p l k s).enc =
      { s.enc with count := edgeCount p l (match p with | .a => s.enc.levB | .b => s.enc.levA) s.enc.count,
                   lastPin := pinKey p, levA := if p = .a then l else s.enc.levA,
                   levB := if p = .b then l else s.enc.levB } := by
  cases p <;> rfl

/-- What an accepted edge does to the memories (R164). -/
theorem acceptEdge_mem (p : QPin) (l : Bool) (k : Tick) (s : State) :
    (acceptEdge p l k s).mem =
      { s.mem with hist := histAppend s.cfg.n k (acceptEdge p l k s).enc.count s.mem.hist } := by
  cases p <;> rfl

/-! ## The estimator (R172) -/

theorem cpsValue_cases (n : Nat) (h : List HistSample) :
    ((h.length ≠ n ∨ cpsDen n h = 0) ∧ cpsValue n h = (0, true)) ∨
    (h.length = n ∧ cpsDen n h ≠ 0 ∧
      cpsValue n h = (1000000 * (cpsNum n h : ℚ) / (cpsDen n h : ℚ), false)) := by
  unfold cpsValue
  split
  · exact .inl ⟨.inl ‹_›, rfl⟩
  · split
    · exact .inl ⟨.inr ‹_›, rfl⟩
    · exact .inr ⟨by simpa using ‹¬ h.length ≠ n›, ‹_›, rfl⟩

/-! ## Runs -/

/-- The tests of R211 all pass exactly when the run is accepted. -/
theorem runRefusal_eq_none {nv nd nz : Bool} {s : State} :
    runRefusal nv nd nz s = none ↔
      s.mcState.isIls = true ∧ (nv = true → s.mem.vel ≠ []) ∧ (nd = true → s.mem.dist ≠ []) ∧
      s.flags.homed = true ∧ (nz = true → s.setup.kvisSet = true ∧ s.setup.visBound = true) := by
  unfold runRefusal
  cases s.mcState.isIls <;> cases nv <;> cases nd <;> cases nz <;> cases s.flags.homed <;> cases s.setup.kvisSet <;>
    cases s.setup.visBound <;> cases s.mem.vel <;> cases s.mem.dist <;> simp

/-- No test of R211 answers OK. -/
theorem runRefusal_ne_ok {nv nd nz : Bool} {s : State} {st : Status} (h : runRefusal nv nd nz s = some st) :
    st ≠ .ok ∧ st ≠ .okDegenerate := by
  unfold runRefusal at h
  split at h
  · cases h; decide
  split at h
  · cases h; decide
  split at h
  · cases h; decide
  split at h
  · cases h; decide
  split at h
  · cases h; decide
  split at h
  · cases h; decide
  · cases h

theorem runAccept_cases {mode : McState} {k : Tick} {nv nd nz : Bool} {s t : State}
    (h : runAccept mode k nv nd nz s = .next t) :
    (∃ st, runRefusal nv nd nz s = some st ∧ t = s.withRsp st 0#64) ∨
    (runRefusal nv nd nz s = none ∧ t = (s.runAccepted mode k).withRsp .ok 0#64) := by
  unfold runAccept at h
  split at h
  · exact .inl ⟨_, ‹_›, respond_eq_next.mp h⟩
  · exact .inr ⟨‹_›, respond_eq_next.mp h⟩

/-- R304: the bounds are strict. -/
theorem wsCheck_eq_high {slack : U32} {s : State} :
    wsCheck slack s = .high ↔ s.cal.wwCount + (slack.toNat : ℚ) < (s.c : ℚ) := by
  unfold wsCheck
  split <;> rename_i h
  · simpa using h
  · split <;> simp_all

theorem wsCheck_eq_low {slack : U32} {s : State} :
    wsCheck slack s = .low ↔
      ¬ s.cal.wwCount + (slack.toNat : ℚ) < (s.c : ℚ) ∧ s.c < -(s.setup.slackLo.toNat : ℤ) := by
  unfold wsCheck
  split <;> rename_i h
  · simpa using fun h' => absurd h (not_lt.mpr h')
  · split <;> simp_all

theorem wsCheck_eq_ok {slack : U32} {s : State} :
    wsCheck slack s = .ok ↔
      (s.c : ℚ) ≤ s.cal.wwCount + (slack.toNat : ℚ) ∧ -(s.setup.slackLo.toNat : ℤ) ≤ s.c := by
  unfold wsCheck
  split <;> rename_i h
  · simpa using fun h' => absurd h (not_lt.mpr h')
  · split <;> simp_all

theorem posVel_of_ne {s : State} (h : s.cal.cpm ≠ 0) :
    posVel s = some ((s.c : ℚ) / s.cal.cpm, (cpsValue s.cfg.n s.mem.hist).1 / s.cal.cpm) := by
  simp [posVel, h]

/-- R330: a capture does nothing, appends a sample, or sets TRACE_OVF; in the last two cases `LAST_MS` moves. -/
theorem capture_cases (s : State) (t : Nat) (d v : ℚ) :
    (captureDue t s = false ∧ s.capture t d v = s) ∨
    (captureDue t s = true ∧ s.mem.trace.length < s.cfg.traceMax ∧
      s.capture t d v = { s with
        mem := { s.mem with trace := s.mem.trace ++ [{ ms := BitVec.ofNat 32 t, pos := d, vel := v }] },
        lastMs := some (BitVec.ofNat 32 t) }) ∨
    (captureDue t s = true ∧ s.cfg.traceMax ≤ s.mem.trace.length ∧
      s.capture t d v = { s with errFlags := s.errFlags ||| traceOvfBit, lastMs := some (BitVec.ofNat 32 t) }) := by
  unfold State.capture
  cases hd : captureDue t s
  · simp
  · by_cases hl : s.mem.trace.length < s.cfg.traceMax
    · simp [hl]
    · simp [hl, State.setErr, not_lt.mp hl]

theorem captureDue_eq_true {t : Nat} {s : State} :
    captureDue t s = true ↔ s.lastMs = none ∨ ∃ m, s.lastMs = some m ∧ m.toNat < t := by
  unfold captureDue
  cases s.lastMs <;> simp

/-- R306, R343: the commit writes the pending drive or nothing. -/
theorem commit_of_some {s : State} {d : Drive} (h : s.pend = some d) :
    s.commit = { s with duty := d.duty, dir := d.dir, pend := none } := by
  simp [State.commit, h, State.drive]

theorem commit_of_none {s : State} (h : s.pend = none) : s.commit = s := by
  simp [State.commit, h]

/-- R342: the three cases of the vision law. -/
theorem visionLaw_cases (d : ℚ) (s : State) :
    (s.live.vis = visSentinel ∧ visionLaw d s = some { duty := 0#8, dir := s.dir }) ∨
    (s.live.vis ≠ visSentinel ∧ (visDemand s < 0 ∨ val s.setup.workspaceWidth < visDemand s) ∧
      visionLaw d s = none) ∨
    (s.live.vis ≠ visSentinel ∧ 0 ≤ visDemand s ∧ visDemand s ≤ val s.setup.workspaceWidth ∧
      visionLaw d s = some (actuate (visionU (visDemand s - d) s * (dirf s : ℚ)))) := by
  unfold visionLaw
  by_cases h1 : s.live.vis = visSentinel
  · simp [h1]
  · by_cases h2 : visDemand s < 0 ∨ visDemand s > val s.setup.workspaceWidth
    · simp only [h1, h2, if_true, if_false]; tauto
    · simp only [h1, h2, if_false]
      rw [not_or, not_lt, not_lt] at h2
      tauto

/-- What a SAMPLE step of the path loop can do (R305). -/
theorem rSampleStep_cases {s t : State} (h : rSampleStep s = .next t) :
    (∃ c, t = s.runExit c) ∨
    (s.mcState = .runPdffVis ∧ t = s.handoff s.live.tick) ∨
    (s.flags.limitLatch = false ∧ wsCheck s.setup.slackHiPath s = .ok ∧
      ∃ d v, posVel s = some (d, v) ∧
        t = { s.capture (runMs s) d v with pend := pathLaw (runMs s) d v s, phase := .rCommit }) := by
  unfold rSampleStep at h
  split at h
  · exact .inl ⟨_, by simpa [eq_comm] using h⟩
  split at h
  · exact .inl ⟨_, by simpa [eq_comm] using h⟩
  split at h
  · exact .inl ⟨_, by simpa [eq_comm] using h⟩
  split at h
  · exact .inl ⟨_, by simpa [eq_comm] using h⟩
  split at h
  · rename_i hm
    exact .inr (.inl ⟨hm.1, by simpa [eq_comm] using h⟩)
  rename_i hl _ _ _ _
  split at h
  · exact .inl ⟨_, by simpa [eq_comm] using h⟩
  · exact .inl ⟨_, by simpa [eq_comm] using h⟩
  · rename_i hw
    unfold pathIterate at h
    split at h
    · cases h
    · rename_i d v hp
      exact .inr (.inr ⟨by simpa using hl, hw, d, v, hp, by simpa [eq_comm] using h⟩)

/-- What a SAMPLE step of the vision loop can do (R341). -/
theorem rVSampleStep_cases {s t : State} (h : rVSampleStep s = .next t) :
    (∃ c, t = s.runExit c) ∨
    (s.flags.limitLatch = false ∧ wsCheck s.setup.slackHiVis s = .ok ∧
      ∃ d v, posVel s = some (d, v) ∧
        t = { s.capture (runMs s) d v with pend := visionLaw d s, phase := .rVCommit }) := by
  unfold rVSampleStep at h
  split at h
  · exact .inl ⟨_, by simpa [eq_comm] using h⟩
  split at h
  · exact .inl ⟨_, by simpa [eq_comm] using h⟩
  rename_i hl _
  split at h
  · exact .inl ⟨_, by simpa [eq_comm] using h⟩
  · exact .inl ⟨_, by simpa [eq_comm] using h⟩
  · rename_i hw
    unfold visIterate at h
    split at h
    · cases h
    · rename_i d v hp
      exact .inr ⟨by simpa using hl, hw, d, v, hp, by simpa [eq_comm] using h⟩

/-- What the wait for the start tick can do (R301). -/
theorem rWaitStep_cases (s : State) :
    (tickReached s.live.tick s.t0 = false ∧ rWaitStep s = s) ∨
    (tickReached s.live.tick s.t0 = true ∧ s.mcState = .runVis ∧
      rWaitStep s = (s.loopEntry.visEntry s.t0).goto .rVSample) ∨
    (tickReached s.live.tick s.t0 = true ∧ s.mcState ≠ .runVis ∧
      rWaitStep s =
        ({ s.loopEntry with flags := { s.loopEntry.flags with pathStarted := true } } : State).goto .rSample) := by
  unfold rWaitStep
  cases tickReached s.live.tick s.t0 <;> by_cases hm : s.mcState = .runVis <;> simp [hm]

/-! ## The sequencer (R110) -/

theorem sequencerStep_idle {s : State} (h : s.mcState.isBusy = false) : sequencerStep s = .next s := by
  simp [sequencerStep, h]

theorem sequencerStep_busy {s : State} (hb : s.mcState.isBusy = true) (hp : phaseFits s.mcState s.phase = true) :
    sequencerStep s = phaseStep s := by
  simp [sequencerStep, hb, hp]

theorem sequencerStep_cases {s t : State} (h : sequencerStep s = .next t) :
    (s.mcState.isBusy = false ∧ t = s) ∨
    (s.mcState.isBusy = true ∧ phaseFits s.mcState s.phase = true ∧ phaseStep s = .next t) := by
  unfold sequencerStep at h
  split at h
  · exact .inl ⟨‹_›, by simpa [eq_comm] using h⟩
  split at h
  · cases h
  · exact .inr ⟨by simpa using ‹¬ s.mcState.isBusy = false›, by simpa using ‹¬ phaseFits s.mcState s.phase = false›, h⟩

/-- The phases of homing are the phases that fit HOMING. -/
theorem phaseFits_homing {p : Phase} : phaseFits .homing p = p.isHoming := rfl

theorem isRun_of_phaseFits {m : McState} {p : Phase} (hb : m.isBusy = true) (h : phaseFits m p = true)
    (hp : p.isHoming = false) : m.isRun = true := by
  cases m <;> cases p <;> simp_all [McState.isBusy, McState.isRun, phaseFits, Phase.isHoming]

theorem homing_of_phaseFits {m : McState} {p : Phase} (h : phaseFits m p = true) (hp : p.isHoming = true) :
    m = .homing := by
  cases m <;> cases p <;> simp_all [phaseFits, Phase.isHoming, Phase.isPathLoop, Phase.isVisLoop]

/-! ## The step -/

/-- A turn is reset, a legal operation run by `exec`, an illegal word, or a sequencer step (R110, R140, R141, R440). -/
theorem takeTurn_cases (x : Turn) (s : State) :
    (x = .reset ∧ takeTurn x s = .next s.toReset) ∨
    (∃ i, isTurnOf i x ∧ takeTurn x s = exec i s) ∨
    ((∃ w r, x = .event w ∧ decode .evt w = .illegal r) ∧ takeTurn x s = illegalEvent s) ∨
    ((∃ w r, x = .command w ∧ decode .cmd w = .illegal r) ∧ takeTurn x s = illegalCommand s) ∨
    (x = .sequencer ∧ takeTurn x s = sequencerStep s) := by
  cases x with
  | reset => exact .inl ⟨rfl, rfl⟩
  | event w =>
    cases hd : decode .evt w with
    | ok i => exact .inr (.inl ⟨i, hd, by simp [takeTurn, hd]⟩)
    | illegal r => exact .inr (.inr (.inl ⟨⟨w, r, rfl, hd⟩, by simp [takeTurn, hd]⟩))
  | command w =>
    cases hd : decode .cmd w with
    | ok i => exact .inr (.inl ⟨i, hd, by simp [takeTurn, hd]⟩)
    | illegal r => exact .inr (.inr (.inr (.inl ⟨⟨w, r, rfl, hd⟩, by simp [takeTurn, hd]⟩)))
  | sequencer => exact .inr (.inr (.inr (.inr ⟨rfl, rfl⟩)))

end Sys2Proof.Machine
end

