-- ==== Sys2Proof/Laws/Registers.lean ====
section
/-!
SUPPORT. The register map's inverse laws, and what the tests and the store of a register write do.
-/

namespace Sys2Proof.Machine

/-! ## The map (R75) -/

theorem Reg.mem_allRegs (r : Reg) : r ∈ allRegs := by cases r <;> decide

@[simp] theorem Reg.ofSel_sel (r : Reg) : Reg.ofSel r.sel = some r := by cases r <;> decide

theorem Reg.sel_of_ofSel {n : BitVec 8} {r : Reg} (h : Reg.ofSel n = some r) : r.sel = n := by
  have := List.find?_some h
  simpa using this

theorem Reg.ofSel_eq_none {n : BitVec 8} : Reg.ofSel n = none ↔ ∀ r : Reg, r.sel ≠ n := by
  unfold Reg.ofSel
  rw [List.find?_eq_none]
  constructor
  · intro h r
    simpa using h r r.mem_allRegs
  · intro h r _
    simpa using h r

theorem Reg.sel_injective {r r' : Reg} (h : r.sel = r'.sel) : r = r' := by
  have := Reg.ofSel_sel r
  rw [h, Reg.ofSel_sel] at this
  exact (Option.some.inj this).symm

/-! ## Writes (R362) -/

theorem writeRefusal_eq_none {r : Reg} {x : Data} {s : State} :
    writeRefusal r x s = none ↔
      r.access ≠ .ro ∧ (r.isMotorConfig = true → s.mcState.isBusy = false) ∧ legalValue r x s = true := by
  unfold writeRefusal
  by_cases h : r.access = .ro
  · simp [h]
  · cases r.isMotorConfig <;> cases s.mcState.isBusy <;> cases legalValue r x s <;> simp [h]

/-- No test of R362 answers OK. -/
theorem writeRefusal_ne_ok {r : Reg} {x : Data} {s : State} {st : Status} (h : writeRefusal r x s = some st) :
    st ≠ .ok ∧ st ≠ .okDegenerate := by
  unfold writeRefusal at h
  split at h
  · cases h; decide
  split at h
  · cases h; decide
  split at h
  · cases h; decide
  · cases h

/-- A store touches the configuration, the two encoder enables and the error flags, nothing else. -/
theorem storeReg_frame (r : Reg) (x : Data) (s : State) :
    storeReg r x s =
      { s with setup := (storeReg r x s).setup, errFlags := (storeReg r x s).errFlags,
               enc := { s.enc with encEn := (storeReg r x s).enc.encEn,
                                   idxRstEn := (storeReg r x s).enc.idxRstEn } } := by
  cases r <;> rfl

/-- Only a motor configuration register's store touches the configuration. -/
theorem storeReg_setup_of_not {r : Reg} (h : r.isMotorConfig = false) (x : Data) (s : State) :
    (storeReg r x s).setup = s.setup := by
  cases r <;> first | rfl | (simp [Reg.isMotorConfig] at h)

/-- An accepted write keeps the order of the widths (R366). -/
theorem storeReg_widths {r : Reg} {x : Data} {s : State} (h : legalValue r x s = true)
    (hw : 0 ≤ s.setup.workspaceWidth.toInt ∧ s.setup.workspaceWidth.toInt ≤ s.setup.limitWidth.toInt) :
    0 ≤ (storeReg r x s).setup.workspaceWidth.toInt ∧
      (storeReg r x s).setup.workspaceWidth.toInt ≤ (storeReg r x s).setup.limitWidth.toInt := by
  cases r <;> simp_all [storeReg, storeSetup, legalValue, State.clearErr]

/-- A write never takes back the vision gain (R49), and takes back the vision binding only through MC_CFG. -/
theorem storeReg_kvisSet {r : Reg} (x : Data) {s : State} (h : s.setup.kvisSet = true) :
    (storeReg r x s).setup.kvisSet = true := by
  cases r <;> simp [storeReg, storeSetup, State.clearErr, h]

end Sys2Proof.Machine
end

