-- ==== Sys2Proof/Laws/Memory.lean ====
section
/-!
SUPPORT. Every operation on the four memories keeps their canonical form, and the memories after reset have it.
-/

namespace Sys2Proof.Machine

/-- Right after reset (R440). -/
theorem resetOf_mem_wf (c : Config) : Memory.wf c (State.resetOf c).mem := by
  simp [Memory.wf, State.resetOf]

/-- `State.reset` has legal parameters and memories in canonical form. -/
theorem reset_memoryOk : State.reset.MemoryOk := by
  refine ⟨?_, resetOf_mem_wf _⟩
  show Config.ofVectors.wf
  simp [Config.wf, Config.ofVectors]

/-- The append of an accepted edge (R164). -/
theorem acceptEdge_memoryOk (p : QPin) (l : Bool) (k : Tick) {s : State} (h : s.MemoryOk) :
    (acceptEdge p l k s).MemoryOk := by
  obtain ⟨hc, hh, h2⟩ := h
  refine ⟨hc, ?_, ?_⟩
  · rw [acceptEdge_mem]
    exact histAppend_wf _ _ _ _ (by have := hc.1; omega) hh
  · rw [acceptEdge_mem]
    exact h2

/-- Clearing a setpoint memory (R370). -/
theorem setSp_nil_memoryOk (m : SpMem) {s : State} (h : s.MemoryOk) : (s.setSp m []).MemoryOk := by
  obtain ⟨hc, h1, h2, h3, h4⟩ := h
  cases m
  · exact ⟨hc, h1, Nat.zero_le _, h3, h4⟩
  · exact ⟨hc, h1, h2, Nat.zero_le _, h4⟩

/-- Pushing on a setpoint memory that is not full (R371). -/
theorem setSp_push_memoryOk (m : SpMem) (x : Fixed) {s : State} (h : s.MemoryOk)
    (hl : (spWords m s).length ≠ s.cfg.spMax) : (s.setSp m (spWords m s ++ [x])).MemoryOk := by
  obtain ⟨hc, h1, h2, h3, h4⟩ := h
  cases m
  · refine ⟨hc, h1, ?_, h3, h4⟩
    simp [spWords] at hl
    simp [State.setSp, spWords]
    omega
  · refine ⟨hc, h1, h2, ?_, h4⟩
    simp [spWords] at hl
    simp [State.setSp, spWords]
    omega

/-- A capture (R330). -/
theorem capture_memoryOk (t : Nat) (d v : ℚ) {s : State} (h : s.MemoryOk) : (s.capture t d v).MemoryOk := by
  obtain ⟨hc, h1, h2, h3, h4⟩ := h
  rcases capture_cases s t d v with ⟨_, e⟩ | ⟨_, hl, e⟩ | ⟨_, _, e⟩ <;> rw [e]
  · exact ⟨hc, h1, h2, h3, h4⟩
  · refine ⟨hc, h1, h2, h3, ?_⟩
    simp
    omega
  · exact ⟨hc, h1, h2, h3, h4⟩

/-- The emptying of the trace at a loop entry (R301). -/
theorem loopEntry_memoryOk {s : State} (h : s.MemoryOk) : s.loopEntry.MemoryOk := by
  obtain ⟨hc, h1, h2, h3, _⟩ := h
  exact ⟨hc, h1, h2, h3, Nat.zero_le _⟩

/-- A state with the same parameters and memories. -/
theorem State.MemoryOk.of_eq {s t : State} (h : s.MemoryOk) (hc : t.cfg = s.cfg) (hm : t.mem = s.mem) :
    t.MemoryOk := by
  unfold State.MemoryOk
  rw [hc, hm]
  exact h

end Sys2Proof.Machine
end

