-- ==== Sys2Proof/Laws/Words.lean ====
section
/-!
SUPPORT. The fields of a packed word, a word as the pack of its fields, and the inverse laws of the opcode and selector
tables.
-/

namespace Sys2Proof

/-! ## Fields of a packed word -/

@[simp] theorem opcOf_packWord (o s : BitVec 8) (l : Bool) (h k : BitVec 32) : opcOf (packWord o s l h k) = o := by
  unfold opcOf packWord
  ext i hi
  simp [BitVec.getElem_extractLsb']
  grind

@[simp] theorem selOf_packWord (o s : BitVec 8) (l : Bool) (h k : BitVec 32) : selOf (packWord o s l h k) = s := by
  unfold selOf packWord
  ext i hi
  simp [BitVec.getElem_extractLsb']
  grind

@[simp] theorem rsvOf_packWord (o s : BitVec 8) (l : Bool) (h k : BitVec 32) :
    rsvOf (packWord o s l h k) = 0#15 := by
  unfold rsvOf packWord
  ext i hi
  simp [BitVec.getElem_extractLsb']
  grind

@[simp] theorem lvlOf_packWord (o s : BitVec 8) (l : Bool) (h k : BitVec 32) : lvlOf (packWord o s l h k) = l := by
  unfold lvlOf packWord
  simp
  grind

@[simp] theorem hiOf_packWord (o s : BitVec 8) (l : Bool) (h k : BitVec 32) : hiOf (packWord o s l h k) = h := by
  unfold hiOf packWord
  ext i hi
  simp [BitVec.getElem_extractLsb']
  grind

@[simp] theorem loOf_packWord (o s : BitVec 8) (l : Bool) (h k : BitVec 32) : loOf (packWord o s l h k) = k := by
  unfold loOf packWord
  ext i hi
  simp [BitVec.getElem_extractLsb']
  grind

/-- `DATA` is its two halves. -/
theorem dataOf_eq (w : OpWord) : dataOf w = hiOf w ++ loOf w := by
  unfold dataOf hiOf loOf
  ext i hi
  simp [BitVec.getElem_extractLsb']
  grind

/-- A 64-bit value is its two halves. -/
theorem halves_append (x : Data) : x.extractLsb' 32 32 ++ x.extractLsb' 0 32 = x := by
  ext i hi
  simp
  grind

/-- A word whose reserved bits are zero is the pack of its fields. -/
theorem packWord_fields (w : OpWord) (h : rsvOf w = 0#15) :
    packWord (opcOf w) (selOf w) (lvlOf w) (hiOf w) (loOf w) = w := by
  have hr : ∀ i, i < 15 → w.getLsbD (65 + i) = false := by
    intro i hi
    have := congrArg (fun v => v.getLsbD i) h
    simpa [rsvOf, BitVec.getLsbD_extractLsb', hi] using this
  unfold packWord opcOf selOf lvlOf hiOf loOf
  ext i hi
  simp
  have h1 := hr (i - 65)
  grind

/-- Two words with the same fields and zero reserved bits are the same word. -/
theorem word_ext_fields {v w : OpWord} (hv : rsvOf v = 0#15) (hw : rsvOf w = 0#15) (ho : opcOf v = opcOf w)
    (hs : selOf v = selOf w) (hl : lvlOf v = lvlOf w) (hh : hiOf v = hiOf w) (hk : loOf v = loOf w) : v = w := by
  rw [← packWord_fields v hv, ← packWord_fields w hw, ho, hs, hl, hh, hk]

/-! ## Opcodes and selectors -/

@[simp] theorem Opcode.ofByte_byte (o : Opcode) : Opcode.ofByte o.byte = some o := by
  cases o <;> decide

theorem Opcode.byte_of_ofByte {b : BitVec 8} {o : Opcode} (h : Opcode.ofByte b = some o) : o.byte = b := by
  have := List.find?_some h
  simpa using this

theorem Opcode.mem_all (o : Opcode) : o ∈ Opcode.all := by
  cases o <;> decide

theorem Opcode.ofByte_eq_none {b : BitVec 8} (h : ∀ o : Opcode, o.byte ≠ b) : Opcode.ofByte b = none := by
  unfold Opcode.ofByte
  rw [List.find?_eq_none]
  intro o _
  simpa using h o

@[simp] theorem QPin.ofSel_sel (p : QPin) : QPin.ofSel p.sel = some p := by cases p <;> rfl
@[simp] theorem LimPin.ofSel_sel (p : LimPin) : LimPin.ofSel p.sel = some p := by cases p <;> rfl
@[simp] theorem SpMem.ofSel_sel (m : SpMem) : SpMem.ofSel m.sel = some m := by cases m <;> rfl
@[simp] theorem HistField.ofSel_sel (f : HistField) : HistField.ofSel f.sel = some f := by cases f <;> rfl
@[simp] theorem TraceField.ofSel_sel (f : TraceField) : TraceField.ofSel f.sel = some f := by cases f <;> rfl

theorem QPin.sel_of_ofSel {s : BitVec 8} {p : QPin} (h : QPin.ofSel s = some p) : p.sel = s := by
  unfold QPin.ofSel at h; grind [QPin.sel]

theorem LimPin.sel_of_ofSel {s : BitVec 8} {p : LimPin} (h : LimPin.ofSel s = some p) : p.sel = s := by
  unfold LimPin.ofSel at h; grind [LimPin.sel]

theorem SpMem.sel_of_ofSel {s : BitVec 8} {m : SpMem} (h : SpMem.ofSel s = some m) : m.sel = s := by
  unfold SpMem.ofSel at h; grind [SpMem.sel]

theorem HistField.sel_of_ofSel {s : BitVec 8} {f : HistField} (h : HistField.ofSel s = some f) : f.sel = s := by
  unfold HistField.ofSel at h; grind [HistField.sel]

theorem TraceField.sel_of_ofSel {s : BitVec 8} {f : TraceField} (h : TraceField.ofSel s = some f) : f.sel = s := by
  unfold TraceField.ofSel at h; grind [TraceField.sel]

/-! ## What a decode that answers has tested -/

/-- A legal word has an assigned opcode of its port, zero reserved and unused fields, and legal selectors. -/
theorem decode_ok {p : Port} {w : OpWord} {i : Instr} (h : decode p w = .ok i) :
    ∃ o : Opcode, o.byte = opcOf w ∧ o.port = p ∧ rsvOf w = 0#15 ∧ o.format.unusedZero w = true ∧
      operands o w = some i := by
  unfold decode at h
  cases ho : Opcode.ofByte (opcOf w) with
  | none => simp [ho] at h
  | some o =>
    simp only [ho] at h
    refine ⟨o, Opcode.byte_of_ofByte ho, ?_⟩
    by_cases hp : o.port = p
    · by_cases hr : rsvOf w = 0#15
      · by_cases hu : o.format.unusedZero w = true
        · cases hi : operands o w with
          | none => simp [hp, hr, hu, hi] at h
          | some j => simp_all
        · simp [hp, hr, hu] at h
      · simp [hp, hr] at h
    · simp [hp] at h

/-- What the tests of `decode_ok` make of a word. -/
theorem decode_of_tests {p : Port} {w : OpWord} {i : Instr} {o : Opcode} (ho : o.byte = opcOf w) (hp : o.port = p)
    (hr : rsvOf w = 0#15) (hu : o.format.unusedZero w = true) (hi : operands o w = some i) : decode p w = .ok i := by
  unfold decode
  rw [← ho, Opcode.ofByte_byte]
  simp [hp, hr, hu, hi]

end Sys2Proof
end

