-- ==== Sys2Proof/Laws/PerInstr.lean ====
section
/-!
SUPPORT. Statements about every instruction as syntax, one lemma for each constructor.
-/

namespace Sys2Proof.Laws.EncodesOpcode

/-- The word of an instruction has zero reserved bits, and its opcode is one of the instruction's port (R131, R135). -/
def Statement (i : Instr) : Prop := rsvOf (encode i) = 0#15 ∧ portOfWord (encode i) = i.port

/-- The port of a packed word is that of its opcode. -/
theorem portOfWord_packWord (o : Opcode) (s : BitVec 8) (l : Bool) (h k : BitVec 32) :
    portOfWord (packWord o.byte s l h k) = o.port := by
  simp [portOfWord]

theorem encEdge (p : QPin) (l : Bool) (k : Tick) : Statement (.encEdge p l k) :=
  ⟨rsvOf_packWord .., portOfWord_packWord .encEdge ..⟩

theorem idxEdge (l : Bool) (k : Tick) : Statement (.idxEdge l k) :=
  ⟨rsvOf_packWord .., portOfWord_packWord .idxEdge ..⟩

theorem limEdge (p : LimPin) (l : Bool) : Statement (.limEdge p l) :=
  ⟨rsvOf_packWord .., portOfWord_packWord .limEdge ..⟩

theorem encReset : Statement .encReset :=
  ⟨rsvOf_packWord .., portOfWord_packWord .encReset ..⟩

theorem getCount : Statement .getCount :=
  ⟨rsvOf_packWord .., portOfWord_packWord .getCount ..⟩

theorem getCps : Statement .getCps :=
  ⟨rsvOf_packWord .., portOfWord_packWord .getCps ..⟩

theorem histRd (f : HistField) (i : Nat) : Statement (.histRd f i) :=
  ⟨rsvOf_packWord .., portOfWord_packWord .histRd ..⟩

theorem regRd (r : BitVec 8) : Statement (.regRd r) :=
  ⟨rsvOf_packWord .., portOfWord_packWord .regRd ..⟩

theorem regWr (r : BitVec 8) (x : Data) : Statement (.regWr r x) :=
  ⟨rsvOf_packWord .., portOfWord_packWord .regWr ..⟩

theorem spClr (m : SpMem) : Statement (.spClr m) :=
  ⟨rsvOf_packWord .., portOfWord_packWord .spClr ..⟩

theorem spPush (m : SpMem) (x : Fixed) : Statement (.spPush m x) :=
  ⟨rsvOf_packWord .., portOfWord_packWord .spPush ..⟩

theorem spRd (m : SpMem) (i : Nat) : Statement (.spRd m i) :=
  ⟨rsvOf_packWord .., portOfWord_packWord .spRd ..⟩

theorem trRd (f : TraceField) (i : Nat) : Statement (.trRd f i) :=
  ⟨rsvOf_packWord .., portOfWord_packWord .trRd ..⟩

theorem mcInit : Statement .mcInit :=
  ⟨rsvOf_packWord .., portOfWord_packWord .mcInit ..⟩

theorem latchAct : Statement .latchAct :=
  ⟨rsvOf_packWord .., portOfWord_packWord .latchAct ..⟩

theorem latchDeact : Statement .latchDeact :=
  ⟨rsvOf_packWord .., portOfWord_packWord .latchDeact ..⟩

theorem latchReset : Statement .latchReset :=
  ⟨rsvOf_packWord .., portOfWord_packWord .latchReset ..⟩

theorem home : Statement .home :=
  ⟨rsvOf_packWord .., portOfWord_packWord .home ..⟩

theorem runOl (t : Tick) : Statement (.runOl t) :=
  ⟨rsvOf_packWord .., portOfWord_packWord .runOl ..⟩

theorem runPdff (t : Tick) : Statement (.runPdff t) :=
  ⟨rsvOf_packWord .., portOfWord_packWord .runPdff ..⟩

theorem runPdffVis (t : Tick) : Statement (.runPdffVis t) :=
  ⟨rsvOf_packWord .., portOfWord_packWord .runPdffVis ..⟩

theorem runVis (t : Tick) : Statement (.runVis t) :=
  ⟨rsvOf_packWord .., portOfWord_packWord .runVis ..⟩

theorem runPoint (t : Tick) : Statement (.runPoint t) :=
  ⟨rsvOf_packWord .., portOfWord_packWord .runPoint ..⟩

theorem stop : Statement .stop :=
  ⟨rsvOf_packWord .., portOfWord_packWord .stop ..⟩

theorem clrDone : Statement .clrDone :=
  ⟨rsvOf_packWord .., portOfWord_packWord .clrDone ..⟩

end Sys2Proof.Laws.EncodesOpcode
end

