-- ==== Sys2Proof/Tests/Slice0.lean ====
section
/-!
SUPPORT. The model's own tests: ill-formed terms refused, every constructor's decoding from a word written out from the
encoding tables, worked examples and vectors of the spec, and for each statement with hypotheses a state that meets them.
Expected values come from the worked example or vector that the comment names (95_test_vectors.md V<n>, P<n>; a rule R<n>).
-/

namespace Sys2Proof.Tests

open Sys2Proof.Machine

/-! ## Well-formedness -/

theorem test_wf_refuses_histRd_index : (Instr.histRd .tick 4294967296).wf = false := by decide
theorem test_wf_refuses_spRd_index : (Instr.spRd .dist 4294967296).wf = false := by decide
theorem test_wf_refuses_trRd_index : (Instr.trRd .pos 4294967296).wf = false := by decide
theorem test_wf_accepts_largest_index :
    (Instr.histRd .count 4294967295).wf = true ∧ (Instr.spRd .vel 4294967295).wf = true ∧
    (Instr.trRd .vel 4294967295).wf = true := by decide
theorem test_wf_refuses_bad_config :
    ¬ Config.wf { Config.ofVectors with n := 1 } ∧ ¬ Config.wf { Config.ofVectors with n := 65536 } ∧
    ¬ Config.wf { Config.ofVectors with spMax := 0 } ∧ ¬ Config.wf { Config.ofVectors with traceMax := 4294967296 } := by
  decide

/-! ## Decoding: every constructor from a word written out (R131, R132, R135, R136; words of V1, V16, V20, P1 to P7) -/

theorem test_decode_events :
    decode .evt 0x010000010000000000000708 = .ok (.encEdge .a true 1800#32) ∧
    decode .evt 0x0101000000000000000009C4 = .ok (.encEdge .b false 2500#32) ∧
    decode .evt 0x0200000100000000000001F4 = .ok (.idxEdge true 500#32) ∧
    decode .evt 0x030000010000000000000000 = .ok (.limEdge .lo true) ∧
    decode .evt 0x030100000000000000000000 = .ok (.limEdge .hi false) := by decide

theorem test_decode_encoder :
    decode .cmd 0x100000000000000000000000 = .ok .encReset ∧
    decode .cmd 0x110000000000000000000000 = .ok .getCount ∧
    decode .cmd 0x120000000000000000000000 = .ok .getCps ∧
    decode .cmd 0x140100000000000000000003 = .ok (.histRd .count 3) := by decide

theorem test_decode_access :
    decode .cmd 0x201700000000000000000000 = .ok (.regRd 0x17#8) ∧
    decode .cmd 0x21290000FFFFFFFFFFFFFFFB = .ok (.regWr 0x29#8 0xFFFFFFFFFFFFFFFB#64) ∧
    decode .cmd 0x280100000000000000000000 = .ok (.spClr .dist) ∧
    decode .cmd 0x29000000FFFFFFFE80000000 = .ok (.spPush .vel 0xFFFFFFFE80000000#64) ∧
    decode .cmd 0x2A0000000000000000000001 = .ok (.spRd .vel 1) ∧
    decode .cmd 0x2C0200000000000000000001 = .ok (.trRd .vel 1) := by decide

theorem test_decode_motor :
    decode .cmd 0x300000000000000000000000 = .ok .mcInit ∧
    decode .cmd 0x310000000000000000000000 = .ok .latchAct ∧
    decode .cmd 0x320000000000000000000000 = .ok .latchDeact ∧
    decode .cmd 0x330000000000000000000000 = .ok .latchReset ∧
    decode .cmd 0x340000000000000000000000 = .ok .home ∧
    decode .cmd 0x3E0000000000000000000000 = .ok .stop ∧
    decode .cmd 0x3F0000000000000000000000 = .ok .clrDone := by decide

theorem test_decode_runs :
    decode .cmd 0x380000000000000000001388 = .ok (.runOl 5000#32) ∧
    decode .cmd 0x3900000000000000000186A0 = .ok (.runPdff 100000#32) ∧
    decode .cmd 0x3A00000000000000FFFFFFFF = .ok (.runPdffVis 4294967295#32) ∧
    decode .cmd 0x3B00000000000000000003E8 = .ok (.runVis 1000#32) ∧
    decode .cmd 0x3C0000000000000000000000 = .ok (.runPoint 0#32) := by decide

/-- V21. -/
theorem test_decode_illegal_commands :
    decode .cmd 0x000000000000000000000000 = .illegal .reservedOpcode ∧
    decode .cmd 0x0100000100000000000004E2 = .illegal .wrongPort ∧
    decode .cmd 0x130000000000000000000000 = .illegal .reservedOpcode ∧
    decode .cmd 0x110100000000000000000000 = .illegal .unusedField ∧
    decode .cmd 0x110000020000000000000000 = .illegal .reservedBits ∧
    decode .cmd 0x340000010000000000000000 = .illegal .unusedField ∧
    decode .cmd 0x380000000000000100000000 = .illegal .unusedField ∧
    decode .cmd 0x280200000000000000000000 = .illegal .badSelector ∧
    decode .cmd 0x2C0300000000000000000000 = .illegal .badSelector ∧
    decode .cmd 0x201100000000000000000001 = .illegal .unusedField := by decide

/-- V22. -/
theorem test_decode_illegal_events :
    decode .evt 0x100000000000000000000000 = .illegal .wrongPort ∧
    decode .evt 0x010200010000000000000010 = .illegal .badSelector ∧
    decode .evt 0x020100010000000000000010 = .illegal .badSelector ∧
    decode .evt 0x030000000000000000000001 = .illegal .unusedField := by decide

/-- R102 on R148's fifth and third words. -/
theorem test_serial_operation :
    serialWords 0x212300000000000280000000 = [0x21230000#32, 0x00000002#32, 0x80000000#32] ∧
    serialBytes 0x030100000000000000000000 = [3#8, 1#8, 0#8, 0#8, 0#8, 0#8, 0#8, 0#8, 0#8, 0#8, 0#8, 0#8] := by decide

/-- R102 and R133 on the responses of R170's example (OK, −2) and of a refused push (ERR_FULL, R400). -/
theorem test_serial_response :
    Response.word { status := .ok, data := 0xFFFFFFFFFFFFFFFE#64 } = 0x00FFFFFFFFFFFFFFFE#72 ∧
    serialRspBytes (Response.word { status := .errFull, data := 0#64 })
      = [0x14#8, 0#8, 0#8, 0#8, 0#8, 0#8, 0#8, 0#8, 0#8] ∧
    serialRspBytes 0x00FFFFFFFFFFFFFFFE#72
      = [0x00#8, 0xFF#8, 0xFF#8, 0xFF#8, 0xFF#8, 0xFF#8, 0xFF#8, 0xFF#8, 0xFE#8] := by decide

/-! ## Small states -/

/-- The data a command answers and its status. -/
def answer (r : Result) : Option (Status × Data) :=
  match r with
  | .next t => t.rsp.map fun x => (x.status, x.data)
  | .fault _ => none
  | .refused _ => none

/-- A field of the state after an operation. -/
def seen {α : Type} (f : State → α) (r : Result) : Option α :=
  match r with
  | .next t => some (f t)
  | .fault _ => none
  | .refused _ => none

/-- Reset with a count, levels, marker and history. -/
def encoderAt (c : Int) (a b : Bool) (p : LastPin) (h : List HistSample) : State :=
  { State.reset with
    enc := { State.reset.enc with count := BitVec.ofInt 32 c, levA := a, levB := b, lastPin := p }
    mem := { State.reset.mem with hist := h } }

/-- The history after V1. -/
def histV1 : List HistSample :=
  [{ tick := 2000#32, count := 1#32 }, { tick := 2250#32, count := 2#32 }, { tick := 2500#32, count := 2#32 },
   { tick := 2750#32, count := 2#32 }]

/-- The state after V1. -/
def afterV1 : State := encoderAt 2 false false .a histV1

/-- IDLE after the homing of P2 (`SPAN` 8, `CPM` 16, `WW_COUNT` 4, `LIMIT_BUFFER` 2), configured for every mode. -/
def ready : State :=
  { State.reset with
    mcState := .idle
    flags := { State.reset.flags with homed := true }
    setup := { State.reset.setup with
      visBound := true, kvisSet := true, minUp := 60#8, minDown := 50#8, tol := 1#32, probeCeil := 1#32,
      slackHiPath := 2#32, slackHiVis := 1#32, slackLo := 2#32, limitWidth := 0x80000000#64,
      workspaceWidth := 0x40000000#64, kFf := 0x6400000000#64, pwmConst := 0x6400000000#64,
      kVis := 0x19000000000#64, tParam := 3#32, pointTarget := 3#32 }
    cal := { span := 8#32, cpm := 16, wwCount := 4, limitBuffer := 2 }
    mem := { State.reset.mem with vel := [0x180000000#64], dist := [0x10000000#64] } }

/-- Homing in phase `p` with the count `c` and the two pin levels. -/
def homingAt (p : Phase) (c : Int) (lo hi : Bool) : State :=
  { ready with
    mcState := .homing, phase := p, homeResult := .inProgress, duty := 7#8
    flags := { ready.flags with homed := false }
    enc := { ready.enc with count := BitVec.ofInt 32 c }
    live := { ready.live with limLo := lo, limHi := hi } }

/-- A run of mode `m` in phase `p` with the count `c`, the tick, the vision demand and what is pending. -/
def runAt (m : McState) (p : Phase) (c : Int) (tick : Tick) (vis : Fixed) (pend : Option Drive) : State :=
  { ready with
    mcState := m, phase := p, runResult := .inProgress, duty := 7#8, pend := pend
    flags := { ready.flags with latchEn := true, pathStarted := true }
    enc := { ready.enc with count := BitVec.ofInt 32 c }
    live := { ready.live with tick := tick, vis := vis } }

/-- A state with the latch set. -/
def latched (s : State) : State := { s with flags := { s.flags with limitLatch := true } }

/-- A state whose next stimulus is `x`. -/
def upNext (x : Turn) (s : State) : State := { s with script := [{ turn := x, live := s.live }] }

/-- A vision phase that began at the tick `k`. -/
def visionFrom (k : Tick) (s : State) : State := { s with tv0 := k }

/-! ## One step for each operation -/

/-- V1, second event; V9. -/
theorem test_encEdge_counts_up_and_wraps :
    seen (fun t => (t.enc.count, t.enc.levA, t.enc.lastPin, t.mem.hist.length))
      (exec (.encEdge .a true 1250#32) (encoderAt 0 false true .b [{ tick := 1000#32, count := 0#32 }]))
      = some (1#32, true, .a, 2) ∧
    seen (fun t => t.enc.count) (exec (.encEdge .b true 20#32) (encoderAt (-2147483648) true false .a []))
      = some 2147483647#32 := by decide

/-- V1, fifth event: the oldest sample leaves a full history; V3: the same pin again is ignored. -/
theorem test_encEdge_evicts_and_debounces :
    seen (fun t => t.mem.hist.map fun x => x.tick) (exec (.encEdge .b true 3000#32) afterV1)
      = some [2250#32, 2500#32, 2750#32, 3000#32] ∧
    seen (fun t => t) (exec (.encEdge .a true 2800#32) afterV1) = some afterV1 := by decide

/-- R168's worked example. -/
theorem test_idxEdge_logs :
    seen (fun t => (t.enc.count, t.enc.idxLog, t.enc.idxValid))
      (exec (.idxEdge true 777#32)
        { afterV1 with enc := { afterV1.enc with count := 4003#32, idxRstEn := true } })
      = some (0#32, 4003#32, true) := by decide

/-- V38. -/
theorem test_limEdge_trips_and_drops :
    seen (fun t => (t.duty, t.flags.limitLatch, t.dir))
      (exec (.limEdge .hi false) { runAt .runOl .rSample 0 0#32 0#64 none with live := ⟨0#32, true, false, 0#64⟩ })
      = some (0#8, true, true) ∧
    seen (fun t => (t.duty, t.flags.limitLatch)) (exec (.limEdge .hi false) (runAt .runOl .rSample 0 0#32 0#64 none))
      = some (7#8, false) := by decide

/-- V15. -/
theorem test_encReset_keeps_history :
    seen (fun t => (t.enc.count, t.mem.hist)) (exec .encReset afterV1) = some (0#32, histV1) := by decide

/-- V2. -/
theorem test_getCount_sign_extends :
    answer (exec .getCount (encoderAt (-2) false false .b [])) = some (.ok, 0xFFFFFFFFFFFFFFFE#64) := by decide

/-- V1, V6. -/
theorem test_getCps_slope_and_short :
    answer (exec .getCps afterV1) = some (.ok, 0x000004B000000000#64) ∧
    answer (exec .getCps State.reset) = some (.okDegenerate, 0#64) := by decide +kernel

/-- V13: a tick wrap inside the window; V14: saturation. -/
theorem test_getCps_wrap_and_saturation :
    answer (exec .getCps (encoderAt 3 false false .a
      [⟨4294967000#32, 0#32⟩, ⟨4294967200#32, 1#32⟩, ⟨100#32, 2#32⟩, ⟨300#32, 3#32⟩]))
      = some (.ok, 0xFFFFFFFFFFE17B80#64) ∧
    answer (exec .getCps (encoderAt 3 false false .a
      [⟨0#32, 0x80000000#32⟩, ⟨1#32, 0x7FFFFFFF#32⟩, ⟨2#32, 0x80000000#32⟩, ⟨3#32, 0x7FFFFFFF#32⟩]))
      = some (.ok, 0x7FFFFFFFFFFFFFFF#64) := by decide +kernel

/-- V17. -/
theorem test_histRd :
    answer (exec (.histRd .tick 0) afterV1) = some (.ok, 2000#64) ∧
    answer (exec (.histRd .count 4) afterV1) = some (.errIndex, 0#64) := by decide

/-- V1, V25. -/
theorem test_regRd :
    answer (exec (.regRd 0x01#8) afterV1) = some (.ok, 0x14#64) ∧
    answer (exec (.regRd 0x12#8) State.reset) = some (.ok, 0x100#64) ∧
    answer (exec (.regRd 0x27#8) State.reset) = some (.errUnmapped, 0#64) := by decide

/-- V31: `CPM` = 20000, and 10000 divided by the value of 0x4CCCCCCD. -/
theorem test_regRd_images :
    answer (exec (.regRd 0x31#8) { ready with cal := { ready.cal with cpm := 20000 } })
      = some (.ok, 0x00004E2000000000#64) ∧
    answer (exec (.regRd 0x31#8) { ready with cal := { ready.cal with cpm := 10000 / val 0x4CCCCCCD#64 } })
      = some (.ok, 0x000082355554FE87#64) := by decide +kernel

/-- V26, V27, V29. -/
theorem test_regWr_refusals :
    answer (exec (.regWr 0x40#8 0#64) ready) = some (.errUnmapped, 0#64) ∧
    answer (exec (.regWr 0x30#8 1#64) (homingAt .hSeek 0 true true)) = some (.errRo, 0#64) ∧
    answer (exec (.regWr 0x19#8 256#64) (homingAt .hSeek 0 true true)) = some (.errBusy, 0#64) ∧
    answer (exec (.regWr 0x19#8 256#64) ready) = some (.errRange, 0#64) ∧
    answer (exec (.regWr 0x29#8 0x80000000#64) ready) = some (.errRange, 0#64) ∧
    answer (exec (.regWr 0x21#8 0x66666666#64) State.reset) = some (.errRange, 0#64) := by decide

/-- V26, V28, V22. -/
theorem test_regWr_stores :
    seen (fun t => t.setup.pointTarget) (exec (.regWr 0x29#8 0xFFFFFFFFFFFFFF9C#64) ready)
      = some (BitVec.ofInt 32 (-100)) ∧
    seen mcFlags (exec (.regWr 0x26#8 0#64) State.reset) = some 0x100#64 ∧
    seen (fun t => t.errFlags) (exec (.regWr 0x15#8 1#64) { ready with errFlags := 3#2 }) = some 2#2 := by decide

/-- V30. -/
theorem test_setpoints :
    seen (fun t => t.mem.vel) (exec (.spClr .vel) ready) = some [] ∧
    answer (exec (.spPush .vel 0xFFFFFFFFC0000000#64) ready) = some (.ok, 2#64) ∧
    answer (exec (.spPush .vel 0#64) { ready with cfg := { ready.cfg with spMax := 1 } }) = some (.errFull, 0#64) ∧
    answer (exec (.spRd .vel 0) ready) = some (.ok, 0x180000000#64) ∧
    answer (exec (.spRd .vel 1) ready) = some (.errIndex, 0#64) := by decide

/-- A state with R373's trace. -/
def traced : State :=
  { ready with mem := { ready.mem with trace := [⟨0#32, 0, 0⟩, ⟨1#32, 1 / 20000, 3 / 50⟩] } }

/-- R373's worked example. -/
theorem test_trRd :
    answer (exec (.trRd .ms 1) traced) = some (.ok, 1#64) ∧
    answer (exec (.trRd .pos 1) traced) = some (.ok, 0x00000000000346DC#64) ∧
    answer (exec (.trRd .vel 1) traced) = some (.ok, 0x000000000F5C28F6#64) ∧
    answer (exec (.trRd .pos 2) traced) = some (.errIndex, 0#64) := by decide +kernel

/-- V33. -/
theorem test_mcInit :
    seen (fun t => t.mcState) (exec .mcInit State.reset) = some .idle ∧
    answer (exec .mcInit ready) = some (.errState, 0#64) := by decide

/-- V38, V33. -/
theorem test_latch_commands :
    seen (fun t => t.flags.latchEn) (exec .latchAct ready) = some true ∧
    seen (fun t => (t.flags.latchEn, t.flags.limitLatch)) (exec .latchDeact (latched ready)) = some (false, true) ∧
    seen (fun t => t.flags.limitLatch) (exec .latchReset (latched ready)) = some false ∧
    answer (exec .latchAct State.reset) = some (.errState, 0#64) := by decide

/-- R210's worked example; V33. -/
theorem test_home :
    seen (fun t => (mcStatus t, readImage .homeResult t, t.flags.homed)) (exec .home ready)
      = some (0x02#64, 0xFF#64, false) ∧
    answer (exec .home State.reset) = some (.errState, 0#64) := by decide

/-- R212's worked example; V34. -/
theorem test_run_accept :
    seen (fun t => (mcStatus t, t.t0, readImage .runResult t)) (exec (.runOl 5000#32) ready)
      = some (0x08#64, 5000#32, 0xFF#64) ∧
    answer (exec (.runOl 0#32) { State.reset with mcState := .idle }) = some (.errNoSetpoints, 0#64) ∧
    answer (exec (.runPoint 0#32) { State.reset with mcState := .idle }) = some (.errNotHomed, 0#64) := by decide

/-- V34. -/
theorem test_run_vision_refusals :
    answer (exec (.runPdffVis 0#32) { ready with setup := { ready.setup with kvisSet := false, visBound := false } })
      = some (.errNoVgain, 0#64) ∧
    answer (exec (.runVis 0#32) { ready with setup := { ready.setup with visBound := false } })
      = some (.errNoVbind, 0#64) ∧
    seen (fun t => t.mcState) (exec (.runPdff 0#32) ready) = some .runPdff := by decide

/-- V37. -/
theorem test_stop :
    seen (fun t => (t.duty, mcStatus t, mcFlags t, readImage .runResult t))
      (exec .stop (runAt .runPdff .rCommit 0 0#32 0#64 (some ⟨200#8, true⟩))) = some (0#8, 0x01#64, 0x127#64, 0x05#64) ∧
    seen (fun t => (t.duty, mcStatus t, readImage .homeResult t)) (exec .stop (homingAt .hCleanUp 0 true true))
      = some (0#8, 0x01#64, 0xFE#64) := by decide

/-- R221's worked example. -/
theorem test_clrDone :
    seen mcFlags (exec .clrDone { State.reset with flags := ⟨true, true, true, false, false, true, false, false⟩ })
      = some 0x07#64 := by decide

/-! ## One sequencer step for each phase -/

/-- V39a, V39b. -/
theorem test_homing_probe :
    seen (fun t => (readImage .homeResult t, mcStatus t, t.duty)) (sequencerStep (homingAt .hEntry 123 false false))
      = some (2#64, 0x04#64, 0#8) ∧
    seen (fun t => (t.enc.count, mcOut t, mcStatus t)) (sequencerStep (homingAt .hEntry 123 false true))
      = some (0#32, 0x032#64, 0x12#64) ∧
    seen (fun t => (mcOut t, mcStatus t)) (sequencerStep (homingAt .hProbeDn (-1) true true))
      = some (0x13C#64, 0x32#64) ∧
    seen (fun t => mcStatus t) (sequencerStep (homingAt .hProbeUp 1 true false)) = some 0x22#64 := by decide +kernel

/-- V39d, P2. -/
theorem test_homing_clean :
    seen (fun t => (t.duty, t.enc.count, mcStatus t)) (sequencerStep (homingAt .hCleanDnConf (-3071) false true))
      = some (0#8, 0#32, 0x62#64) ∧
    seen (fun t => (mcStatus t, t.cal)) (sequencerStep (homingAt .hCleanUpConf 8 true false))
      = some (0x82#64, { span := 8#32, cpm := 16, wwCount := 4, limitBuffer := 2 }) := by decide +kernel

/-- V39g, V39h with `LIMIT_BUFFER` = 2 and `TOL` = 1. -/
theorem test_homing_seek :
    seen (fun t => (mcOut t, mcStatus t)) (sequencerStep (homingAt .hSeek 4 true true)) = some (0x032#64, 0x92#64) ∧
    seen (fun t => (t.duty, mcStatus t)) (sequencerStep (homingAt .hSeek 3 true true)) = some (0#8, 0xA2#64) ∧
    seen (fun t => (t.enc.count, t.flags.homed, mcStatus t)) (sequencerStep (homingAt .hSettle2 1 true true))
      = some (0#32, true, 0x05#64) := by decide +kernel

/-- V45; P4, third SAMPLE; V50. -/
theorem test_run_path :
    seen (fun t => t.phase) (sequencerStep { runAt .runOl .rWait 0 999#32 0#64 none with t0 := 1000#32 })
      = some .rWait ∧
    seen (fun t => t.pend) (sequencerStep (runAt .runOl .rSample 0 100#32 0#64 none)) = some (some ⟨150#8, true⟩) ∧
    seen (fun t => (t.duty, mcStatus t, readImage .runResult t))
      (sequencerStep (runAt .runOl .rSample 7 100#32 0#64 none)) = some (0#8, 0x01#64, 0x03#64) := by decide +kernel

/-- P7a: the demands 0.25, 0.05, −1 at count 0. -/
theorem test_run_vision :
    seen (fun t => t.pend) (sequencerStep (runAt .runVis .rVSample 0 10#32 0x40000000#64 none))
      = some (some ⟨100#8, true⟩) ∧
    seen (fun t => t.pend) (sequencerStep (runAt .runVis .rVSample 0 10#32 0x0CCCCCCD#64 none)) = some none ∧
    seen (fun t => t.pend) (sequencerStep (runAt .runVis .rVSample 0 10#32 0xFFFFFFFF00000000#64 none))
      = some (some ⟨0#8, true⟩) := by decide +kernel

/-- V40, V41. -/
theorem test_actuate :
    actuate (1 / 2) = ⟨1#8, true⟩ ∧ actuate (-1 / 2) = ⟨1#8, false⟩ ∧ actuate (149 / 100) = ⟨1#8, true⟩ ∧
    actuate (509 / 2) = ⟨255#8, true⟩ ∧ actuate (-300) = ⟨255#8, false⟩ ∧ actuate 0 = ⟨0#8, true⟩ ∧
    actuate (-1 / 4) = ⟨0#8, false⟩ := by decide +kernel

/-! ## The host's two questions on one word -/

theorem test_withFetchWord_runs_the_word :
    decodeTableWord 96 0x300000000000000000000000 = some .mcInit ∧
    seen (fun t => t.mcState) (step (State.reset.withFetchWord 96 0x300000000000000000000000)) = some .idle := by
  decide

/-- R148's third word through the assembler's notation (R145). -/
theorem test_asmText :
    asmText (.limEdge .hi false) = "LIM_EDGE HI, 0" ∧ asmText (.regRd 0x1B#8) = "REG_RD TOL" ∧
    asmText .home = "HOME" := by decide +kernel

/-! ## Witnesses: states and operands that meet the hypotheses of the statements, clause by clause -/

theorem witness_DecodeOfEncode : (Instr.histRd .count 4294967295).wf = true := by decide

theorem witness_EncodeOfDecode : decode .cmd 0x1401000000000000FFFFFFFF = .ok (.histRd .count 4294967295) := by
  decide

/-- The last clause of DecodesWorkedWords, with LVL 1 and with LVL 0. -/
theorem witness_DecodesWorkedWords :
    (∃ i, decode .evt 0x0100000100000000000004E2 = .ok i) ∧ lvlOf 0x0100000100000000000004E2 = true ∧
    (∃ i, decode .cmd 0x120000000000000000000000 = .ok i) ∧ lvlOf 0x120000000000000000000000 = false :=
  ⟨⟨_, rfl⟩, by decide, ⟨_, rfl⟩, by decide⟩

/-- The ends of the ranges of R142, on the word with that opcode and zeros. -/
theorem witness_ReservedOpcodesIllegal :
    ∀ b ∈ [0x00, 0x04, 0x0F, 0x13, 0x15, 0x1F, 0x22, 0x27, 0x2B, 0x2D, 0x2F, 0x35, 0x37, 0x3D, 0x40, 0xFF],
      b = (opcOf (BitVec.ofNat 96 (b * 2 ^ 88))).toNat ∧ Opcode.ofByte (BitVec.ofNat 8 b) = none := by decide

theorem witness_StepRunsDecoded :
    (upNext (.command 0x300000000000000000000000) State.reset).script
      = [{ turn := portTurn .cmd 0x300000000000000000000000, live := State.reset.live }] ∧
    decode .cmd 0x300000000000000000000000 = .ok .mcInit ∧
    (upNext (.event 0x030000000000000000000000) State.reset).script
      = [{ turn := portTurn .evt 0x030000000000000000000000, live := State.reset.live }] ∧
    decode .evt 0x030000000000000000000000 = .ok (.limEdge .lo false) := by decide

theorem witness_StepRejectsIllegalWords :
    (upNext (.command 0) State.reset).script = [{ turn := .command 0, live := State.reset.live }] ∧
    decode .cmd 0 = .illegal .reservedOpcode ∧
    (upNext (.event 0) State.reset).script = [{ turn := .event 0, live := State.reset.live }] ∧
    decode .evt 0 = .illegal .reservedOpcode := by decide

theorem witness_ResetClearsState :
    (upNext .reset ready).script = [{ turn := .reset, live := ready.live }] := by decide

/-- Disabled; the same pin; accepted and counting up, counting down, not counting. -/
theorem witness_EncEdgeIgnoredOrAccepted :
    ({ afterV1 with enc := { afterV1.enc with encEn := false } } : State).enc.encEn = false ∧
    afterV1.enc.lastPin = pinKey .a ∧
    (afterV1.enc.encEn = true ∧ afterV1.enc.lastPin ≠ pinKey .b) ∧
    (let s := encoderAt 0 false true .b []; s.enc.encEn = true ∧ s.enc.lastPin ≠ pinKey .a ∧ s.enc.levB = true) ∧
    (let s := encoderAt 0 true false .a []; s.enc.encEn = true ∧ s.enc.lastPin ≠ pinKey .b ∧ s.enc.levA = true) := by
  decide

theorem witness_IdxEdgeLogsAndZeroes :
    (let s := { afterV1 with enc := { afterV1.enc with idxRstEn := true } }
     s.enc.encEn = true ∧ s.enc.idxRstEn = true) ∧
    afterV1.enc.idxRstEn = false ∧
    ({ afterV1 with enc := { afterV1.enc with encEn := false } } : State).enc.encEn = false := by decide

/-- Short; full with equal ticks (V5); full with two different ticks (V4). -/
theorem witness_GetCpsAnswers :
    State.reset.mem.hist.length ≠ State.reset.cfg.n ∧
    (let s := encoderAt 7 false false .a [⟨7#32, 5#32⟩, ⟨7#32, 6#32⟩, ⟨7#32, 6#32⟩, ⟨7#32, 7#32⟩]
     s.mem.hist.length = s.cfg.n ∧ ∀ x ∈ s.mem.hist, ∀ y ∈ s.mem.hist, x.tick = y.tick) ∧
    (afterV1.mem.hist.length = afterV1.cfg.n ∧ ∃ x ∈ afterV1.mem.hist, ∃ y ∈ afterV1.mem.hist, x.tick ≠ y.tick) := by
  decide

/-- Index 3 of four samples, and index 4. -/
theorem witness_HistRdAnswers :
    afterV1.mem.hist[3]? = some ⟨2750#32, 2#32⟩ ∧ afterV1.mem.hist.length ≤ 4 := by decide

/-- The third line of V4 has slope 1 / 500 and offset 8. -/
theorem witness_EstimatorExactLine :
    let h : List HistSample := [⟨1000#32, 10#32⟩, ⟨2000#32, 12#32⟩, ⟨3000#32, 14#32⟩, ⟨4000#32, 16#32⟩]
    (∃ x ∈ h, ∃ y ∈ h, x.tick ≠ y.tick) ∧
    ∀ x ∈ h, (x.count.toInt : ℚ) = (1 / 500 : ℚ) * (x.tick.toNat : ℚ) + 8 := by decide +kernel

theorem witness_EstimatorShiftInvariant :
    List.Forall₂ (fun x y : HistSample => (y.tick.toNat : ℤ) = (x.tick.toNat : ℤ) + 100 ∧
      y.count.toInt = x.count.toInt + (-10)) [⟨1000#32, 10#32⟩, ⟨2000#32, 12#32⟩] [⟨1100#32, 0#32⟩, ⟨2100#32, 2#32⟩] :=
  .cons (by decide) (.cons (by decide) .nil)

theorem witness_QuadratureCycleCounts :
    afterV1.enc.encEn = true ∧ afterV1.enc.lastPin ≠ .b ∧ afterV1.enc.levA = false ∧
    (encoderAt 0 true true .a []).enc.lastPin ≠ .b ∧ (encoderAt 0 true true .a []).enc.levA = true := by decide

theorem witness_LimEdgeTripsOrDrops :
    (let s := { runAt .runOl .rSample 0 0#32 0#64 none with live := ⟨0#32, true, false, 0#64⟩ }
     s.flags.latchEn = true ∧ s.live.limHi = false ∧ s.live.limLo = true) ∧
    ready.flags.latchEn = false := by decide

theorem witness_LatchCommands : ready.mcState ≠ .uninit ∧ State.reset.mcState = .uninit := by decide

/-- LATCH_RESET clears a set latch; a limit edge sets a clear one. -/
theorem witness_LatchStickyUntilReset :
    (∃ t, step (upNext (.command 0x330000000000000000000000) (latched ready)) = .next t ∧
      (latched ready).flags.limitLatch = true ∧ t.flags.limitLatch = false) ∧
    ∃ t, step (upNext (.event 0x030100000000000000000000)
        { runAt .runOl .rSample 0 0#32 0#64 none with live := ⟨0#32, true, false, 0#64⟩ }) = .next t ∧
      ready.flags.limitLatch = false ∧ t.flags.limitLatch = true :=
  ⟨⟨_, rfl, by decide, by decide⟩, ⟨_, rfl, by decide, by decide⟩⟩

theorem witness_McInitOnce : State.reset.mcState = .uninit ∧ ready.mcState ≠ .uninit := by decide

theorem witness_HomeStartsHoming :
    ready.mcState ∈ [McState.idle, .homed, .homeFailRec, .homeFailFatal] ∧
    State.reset.mcState ∉ [McState.idle, .homed, .homeFailRec, .homeFailFatal] := by decide

/-- `ready` meets the needs of all five modes at once. -/
theorem witness_RunCommandsAccepted :
    (∀ x ∈ runCommands 5000#32, x.2.1.isRun = true) ∧
    ready.mcState ∈ [McState.idle, .homed, .homeFailRec, .homeFailFatal] ∧ ready.flags.homed = true ∧
    ready.mem.vel.length ≠ 0 ∧ ready.mem.dist.length ≠ 0 ∧ ready.setup.kvisSet = true ∧
    ready.setup.visBound = true := by decide

/-- Each clause, for the mode that needs everything, with every later test failing too. -/
theorem witness_RunCommandsRefusedInOrder :
    (Instr.runPdffVis 0#32, McState.runPdffVis, true, true, true) ∈ runCommands 0#32 ∧
    State.reset.mcState ∉ [McState.idle, .homed, .homeFailRec, .homeFailFatal] ∧
    (let s := { State.reset with mcState := .idle }
     s.mcState ∈ [McState.idle, .homed, .homeFailRec, .homeFailFatal] ∧ s.mem.vel = [] ∧ s.mem.dist = []) ∧
    (let s := { State.reset with mcState := .idle, mem := ready.mem }
     s.mem.vel ≠ [] ∧ s.mem.dist ≠ [] ∧ s.flags.homed = false) ∧
    (let s := { State.reset with mcState := .idle, mem := ready.mem, flags := ready.flags }
     s.mem.vel ≠ [] ∧ s.mem.dist ≠ [] ∧ s.flags.homed = true ∧ s.setup.kvisSet = false) ∧
    (let s := { ready with setup := { ready.setup with visBound := false } }
     s.mem.vel ≠ [] ∧ s.mem.dist ≠ [] ∧ s.flags.homed = true ∧ s.setup.kvisSet = true ∧
       s.setup.visBound = false) := by decide

theorem witness_StopByState :
    State.reset.mcState = .uninit ∧ (homingAt .hSeek 0 true true).mcState = .homing ∧
    (runAt .runVis .rWait 0 0#32 0#64 none).mcState ∈ [McState.runOl, .runPdff, .runPdffVis, .runVis, .runPoint] ∧
    ready.mcState ∈ [McState.idle, .homed, .homeFailRec, .homeFailFatal] := by decide

/-- 0x17 and 0x40 are unmapped. -/
theorem witness_RegRdAnswers : ∀ n ∈ [0x06#8, 0x17#8, 0x27#8, 0x38#8, 0x40#8, 0xFF#8], ∀ r ∈ allRegs, r.sel ≠ n := by
  decide

/-- A motor configuration register outside the busy states, ENC_CTRL in a busy one, every flag of ERR_FLAGS. -/
theorem witness_RegWrStoresAndReadsBack :
    (Reg.minUp.access = .rw ∧ ready.mcState.isBusy = false ∧ legalValue .minUp 255#64 ready = true) ∧
    (Reg.kVis.access = .rw ∧ legalValue .kVis 0#64 ready = true) ∧
    (Reg.encCtrl.access = .rw ∧ Reg.encCtrl.isMotorConfig = false ∧
      legalValue .encCtrl 3#64 (homingAt .hSeek 0 true true) = true) ∧
    (3#64).toNat ≤ 3 := by decide

theorem witness_RegWrRefusedInOrder :
    (∀ r ∈ allRegs, r.sel ≠ 0x40#8) ∧ Reg.span.access = .ro ∧
    (let s := homingAt .hSeek 0 true true
     Reg.minUp.access ≠ .ro ∧ Reg.minUp.isMotorConfig = true ∧ s.mcState.isBusy = true ∧
       legalValue .minUp 256#64 s = false) ∧
    (Reg.minUp.access ≠ .ro ∧ ready.mcState.isBusy = false ∧ legalValue .minUp 256#64 ready = false) ∧
    (Reg.errFlags.access ≠ .ro ∧ Reg.errFlags.isMotorConfig = false ∧ legalValue .errFlags 4#64 ready = false) := by
  decide

/-- A full history and the memory premise at once. -/
theorem witness_RegisterImages : afterV1.MemoryOk ∧ afterV1.mem.hist.length = afterV1.cfg.n :=
  ⟨⟨by decide, by decide⟩, by decide⟩

/-- Every type at the last legal value and the first illegal one (R365); both widths written at the other one's value, one
step outside it on either side, and below 0. -/
theorem witness_LegalWriteValues :
    (legalValue .encCtrl 3#64 ready = true ∧ legalValue .encCtrl 4#64 ready = false) ∧
    (legalValue .minUp 255#64 ready = true ∧ legalValue .minUp 256#64 ready = false) ∧
    (legalValue .tol 0xFFFFFFFF#64 ready = true ∧ legalValue .tol 0x100000000#64 ready = false) ∧
    (legalValue .pointTarget 0x7FFFFFFF#64 ready = true ∧ legalValue .pointTarget 0x80000000#64 ready = false) ∧
    (legalValue .pointTarget 0xFFFFFFFF80000000#64 ready = true ∧
      legalValue .pointTarget 0xFFFFFFFF7FFFFFFF#64 ready = false) ∧
    ready.mcState.isBusy = false ∧
    (0 ≤ val 0x40000000#64 ∧ val ready.setup.workspaceWidth ≤ val 0x40000000#64) ∧
    val 0x3FFFFFFF#64 < val ready.setup.workspaceWidth ∧ val 0xFFFFFFFFFFFFFFFF#64 < 0 ∧
    (0 ≤ val 0x80000000#64 ∧ val 0x80000000#64 ≤ val ready.setup.limitWidth) ∧
    val ready.setup.limitWidth < val 0x80000001#64 := by decide +kernel

theorem witness_SetpointWrites :
    (homingAt .hSeek 0 true true).mcState.isBusy = true ∧ ready.mcState.isBusy = false ∧
    (let s := { ready with cfg := { ready.cfg with spMax := 1 } }
     s.mcState.isBusy = false ∧ (spWords .vel s).length = s.cfg.spMax) ∧
    (spWords .dist ready).length ≠ ready.cfg.spMax := by decide

/-- Index 0 of one word, index 1; a load of two words into a memory of two. -/
theorem witness_SetpointReads :
    ready.mem.vel[0]? = some 0x180000000#64 ∧ ready.mem.vel.length ≤ 1 ∧ ready.mcState.isBusy = false ∧
    [5#64, 6#64].length ≤ ({ ready with cfg := { ready.cfg with spMax := 2 } } : State).cfg.spMax ∧
    [5#64, 6#64][1]? = some 6#64 := by decide

theorem witness_TrRdAnswers :
    traced.mem.trace[1]? = some ⟨1#32, 1 / 20000, 3 / 50⟩ ∧ traced.mem.trace.length ≤ 2 := by decide +kernel

/-- Fatal by the width order, by a zero LIMIT_WIDTH, by both switches; not fatal with one switch active. -/
theorem witness_HomingEntry :
    ((homingAt .hEntry 123 false true).mcState = .homing ∧ (homingAt .hEntry 123 false true).phase = .hEntry) ∧
    val 0x80000001#64 > val (homingAt .hEntry 0 true true).setup.limitWidth ∧
    val State.reset.setup.limitWidth ≤ 0 ∧
    ((homingAt .hEntry 0 false false).live.limLo = false ∧ (homingAt .hEntry 0 false false).live.limHi = false) ∧
    (let s := homingAt .hEntry 123 false true
     val s.setup.workspaceWidth ≤ val s.setup.limitWidth ∧ 0 < val s.setup.limitWidth ∧ s.live.limHi = true) := by
  decide +kernel

/-- The probes at, and one count before, the ceiling of 1; the back-off at the tolerance of 1 and one count outside. -/
theorem witness_HomingProbesAndBackoff :
    (homingAt .hProbeDn 0 true false).live.limHi = false ∧
    (let s := homingAt .hProbeDn (-1) true true
     (s.setup.probeCeil.toNat : ℤ) ≤ s.start.toInt - s.enc.count.toInt) ∧
    (let s := homingAt .hProbeDn 0 true true
     s.start.toInt - s.enc.count.toInt < (s.setup.probeCeil.toNat : ℤ)) ∧
    (let s := homingAt .hProbeUp 1 true true
     (s.setup.probeCeil.toNat : ℤ) ≤ s.enc.count.toInt - s.start.toInt) ∧
    (let s := homingAt .hProbeUp 0 true true
     s.enc.count.toInt - s.start.toInt < (s.setup.probeCeil.toNat : ℤ)) ∧
    (let e : Int → ℤ := fun c => (homingAt .hBackoff c true true).enc.count.toInt
     (e (-1)).natAbs ≤ ready.setup.tol.toNat ∧ ready.setup.tol.toNat < (e (-2)).natAbs ∧ e (-2) < 0 ∧
       ready.setup.tol.toNat < (e 2).natAbs ∧ 0 < e 2) := by decide

theorem witness_HomingCleanRun :
    ∀ p ∈ [Phase.hCleanDn, .hCleanDnConf, .hCleanUp],
      (homingAt p 0 false false).phase = p ∧ (homingAt p 0 false false).live.limLo = false ∧
      (homingAt p 0 false false).live.limHi = false ∧ (homingAt p 0 true true).live.limLo = true ∧
      (homingAt p 0 true true).live.limHi = true := by decide

/-- The count 0 and the count 1 at the confirmation. -/
theorem witness_HomingCalibrates :
    (let s := homingAt .hCleanUpConf 0 true false; s.live.limHi = false ∧ s.enc.count.toInt ≤ 0) ∧
    (let s := homingAt .hCleanUpConf 1 true false; s.live.limHi = false ∧ 0 < s.enc.count.toInt) ∧
    (homingAt .hCleanUpConf 1 true true).live.limHi = true := by decide

/-- Equal widths, the boundary case. -/
theorem witness_CalibrationBounds :
    0 < (1#32).toInt ∧ (0 : ℚ) ≤ val 0x80000000#64 ∧ val 0x80000000#64 ≤ val ready.setup.limitWidth ∧
    0 < val ready.setup.limitWidth := by decide +kernel

/-- `LIMIT_BUFFER` 2, `TOL` 1: the counts 1 and 3 are inside, 0 is below and 4 above. -/
theorem witness_HomingSeeksAndSettles :
    let e : Int → ℚ := fun c => ((homingAt .hSeek c true true).enc.count.toInt : ℚ) - ready.cal.limitBuffer
    (-(ready.setup.tol.toNat : ℚ) ≤ e 1 ∧ e 1 ≤ (ready.setup.tol.toNat : ℚ)) ∧
    (-(ready.setup.tol.toNat : ℚ) ≤ e 3 ∧ e 3 ≤ (ready.setup.tol.toNat : ℚ)) ∧
    (¬ -(ready.setup.tol.toNat : ℚ) ≤ e 0 ∧ e 0 < 0) ∧ (¬ e 4 ≤ (ready.setup.tol.toNat : ℚ) ∧ 0 < e 4) ∧
    (homingAt .hMoveOff 8 true true).live.limHi = true ∧ (homingAt .hMoveOff 8 true false).live.limHi = false := by
  decide +kernel

/-- V45: the difference 2^31 waits and 2^31 − 1 enters. -/
theorem witness_RunWaitsForStartTick :
    (2 ^ 31 ≤ ((runAt .runOl .rWait 0 2147483648#32 0#64 none).live.tick - 0#32).toNat) ∧
    ((runAt .runOl .rWait 0 2147483647#32 0#64 none).live.tick - 0#32).toNat < 2 ^ 31 ∧
    (runAt .runOl .rWait 0 0#32 0#64 none).mcState ≠ .runVis ∧
    (runAt .runVis .rWait 0 0#32 0#64 none).mcState = .runVis := by decide

/-- Every end: latch; the target 3 at the tolerance 1; one word played; the handoff; the counts 7 and −3 (V50). -/
theorem witness_PathSampleEnds :
    (latched (runAt .runOl .rSample 0 0#32 0#64 none)).flags.limitLatch = true ∧
    (let s := runAt .runPoint .rSample 2 0#32 0#64 none
     s.flags.limitLatch = false ∧ -(s.setup.tol.toNat : ℤ) ≤ s.enc.count.toInt - s.setup.pointTarget.toInt ∧
       s.enc.count.toInt - s.setup.pointTarget.toInt ≤ s.setup.tol.toNat) ∧
    (let s := runAt .runOl .rSample 0 1000#32 0#64 none
     s.mem.vel.length ≤ (s.live.tick - s.t0).toNat / 1000) ∧
    (let s := runAt .runPdffVis .rSample 0 1000#32 0#64 none
     min s.mem.vel.length s.mem.dist.length ≤ (s.live.tick - s.t0).toNat / 1000) ∧
    (let s := runAt .runOl .rSample 7 999#32 0#64 none
     ¬ s.mem.vel.length ≤ (s.live.tick - s.t0).toNat / 1000 ∧
       s.cal.wwCount + (s.setup.slackHiPath.toNat : ℚ) < (s.enc.count.toInt : ℚ)) ∧
    (let s := runAt .runOl .rSample (-3) 999#32 0#64 none
     ¬ s.cal.wwCount + (s.setup.slackHiPath.toNat : ℚ) < (s.enc.count.toInt : ℚ) ∧
       s.enc.count.toInt < -(s.setup.slackLo.toNat : ℤ)) := by decide +kernel

/-- The counts 6 and −2, on the bounds; point control one count outside the tolerance on either side. -/
theorem witness_PathSampleIterates :
    (∀ c ∈ [(6 : Int), -2], let s := runAt .runPdff .rSample c 999#32 0#64 none
      s.flags.limitLatch = false ∧ s.cal.cpm ≠ 0 ∧ -(s.setup.slackLo.toNat : ℤ) ≤ s.enc.count.toInt ∧
      (s.enc.count.toInt : ℚ) ≤ s.cal.wwCount + (s.setup.slackHiPath.toNat : ℚ) ∧
      s.mem.vel[(s.live.tick - s.t0).toNat / 1000]? = some 0x180000000#64 ∧
      s.mem.dist[(s.live.tick - s.t0).toNat / 1000]? = some 0x10000000#64) ∧
    (let s := runAt .runPoint .rSample 1 0#32 0#64 none
     s.enc.count.toInt < s.setup.pointTarget.toInt - s.setup.tol.toNat) ∧
    (let s := runAt .runPoint .rSample 5 0#32 0#64 none
     s.setup.pointTarget.toInt + s.setup.tol.toNat < s.enc.count.toInt) := by decide +kernel

theorem witness_CommitWritesPending :
    (let s := runAt .runOl .rCommit 0 0#32 0#64 (some ⟨200#8, true⟩)
     s.mcState ∈ [McState.runOl, .runPdff, .runPdffVis, .runPoint] ∧ s.phase = .rCommit ∧
       s.pend = some ⟨200#8, true⟩) ∧
    (let s := runAt .runVis .rVCommit 0 0#32 0#64 none
     s.mcState ∈ [McState.runVis, .runPdffVis] ∧ s.phase = .rVCommit ∧ s.pend = none) := by decide

/-- The ends of a vision iteration and one that goes on: the phase's last millisecond and the next (T_PARAM 3), the counts
6 and −3, and the bounds 5 and −2. -/
theorem witness_VisionSampleSteps :
    (latched (runAt .runVis .rVSample 0 0#32 0#64 none)).flags.limitLatch = true ∧
    (let s := runAt .runVis .rVSample 0 3000#32 0#64 none
     s.setup.tParam.toNat ≤ (s.live.tick - s.tv0).toNat / 1000) ∧
    (let s := runAt .runVis .rVSample 6 2999#32 0#64 none
     (s.live.tick - s.tv0).toNat / 1000 < s.setup.tParam.toNat ∧
       s.cal.wwCount + (s.setup.slackHiVis.toNat : ℚ) < (s.enc.count.toInt : ℚ)) ∧
    (let s := runAt .runVis .rVSample (-3) 2999#32 0#64 none
     ¬ s.cal.wwCount + (s.setup.slackHiVis.toNat : ℚ) < (s.enc.count.toInt : ℚ) ∧
       s.enc.count.toInt < -(s.setup.slackLo.toNat : ℤ)) ∧
    (∀ c ∈ [(5 : Int), -2], let s := visionFrom 1500#32 (runAt .runPdffVis .rVSample c 3499#32 0#64 none)
      s.flags.limitLatch = false ∧ (s.live.tick - s.tv0).toNat / 1000 < s.setup.tParam.toNat ∧
      ¬ s.cal.wwCount + (s.setup.slackHiVis.toNat : ℚ) < (s.enc.count.toInt : ℚ) ∧
      ¬ s.enc.count.toInt < -(s.setup.slackLo.toNat : ℤ) ∧ s.cal.cpm ≠ 0) := by decide +kernel

/-- The offset is 1 / 8 m and WORKSPACE_WIDTH 1 / 4 m: the sentinel; the pattern next to it; the demands on both bounds; one
step above the upper bound; positions below, above and at the demand. -/
theorem witness_VisionLawCases :
    let dd : Fixed → ℚ := fun r => (r.toInt : ℚ) / 2 ^ 32 - ready.cal.limitBuffer / ready.cal.cpm
    (0xFFFFFFFF00000000#64).toInt = -2 ^ 32 ∧
    ((0xFFFFFFFF00000001#64).toInt ≠ -2 ^ 32 ∧ dd 0xFFFFFFFF00000001#64 < 0) ∧
    ((0x20000000#64).toInt ≠ -2 ^ 32 ∧ 0 ≤ dd 0x20000000#64) ∧
    dd 0x60000000#64 ≤ val ready.setup.workspaceWidth ∧ val ready.setup.workspaceWidth < dd 0x60000001#64 ∧
    (0 : ℚ) < dd 0x60000000#64 ∧ dd 0x60000000#64 < (1 / 2 : ℚ) ∧ (1 / 4 : ℚ) = dd 0x60000000#64 := by decide +kernel

/-- Nonzero minimum duties; the command 255, where two clauses meet; open-loop commands 150 and −150. -/
theorem witness_OutputStages :
    ready.setup.minUp ≠ 0#8 ∧ ready.setup.minDown ≠ 0#8 ∧ (|(255 : ℚ)| ≤ 255 ∧ 255 ≤ |(255 : ℚ)|) ∧
    (ready.mem.vel[0]? = some 0x180000000#64 ∧ (150 : ℚ) = val ready.setup.pwmConst * 1 * val 0x180000000#64) ∧
    (-150 : ℚ) = val ready.setup.pwmConst * 1 * val 0xFFFFFFFE80000000#64 := by decide +kernel

/-- The ends of the range of a Q32.32 value, where the clauses meet, and the largest tie inside it. -/
theorem witness_RoundingAndImages :
    (-2 ^ 31 : ℚ) ≤ -2 ^ 31 ∧ (-2 ^ 31 : ℚ) ≤ 2 ^ 31 - 1 / 2 ^ 32 ∧ (2 ^ 31 - 1 / 2 ^ 32 : ℚ) ≤ 2 ^ 31 ∧
    (9223372036854775806 : Nat) + 1 < 2 ^ 63 := by norm_num

/-- No attempt yet, an earlier millisecond, the same millisecond; a trace with room and a full one. -/
theorem witness_CaptureAdvances :
    ready.lastMs = none ∧
    (let s := { traced with lastMs := some 1#32, cfg := { traced.cfg with traceMax := 2 } }
     s.lastMs = some 1#32 ∧ 1 ≤ (1#32).toNat ∧ (1#32).toNat < 2 ∧ s.cfg.traceMax ≤ s.mem.trace.length) ∧
    traced.mem.trace.length < traced.cfg.traceMax := by decide +kernel

theorem witness_LatchRaceOneIteration :
    let s := { runAt .runOl .rCommit 0 0#32 0#64 (some ⟨255#8, true⟩) with live := ⟨7100#32, true, false, 0#64⟩ }
    s.mcState.isRun = true ∧ phaseFits s.mcState s.phase = true ∧ s.phase = .rCommit ∧
    s.pend = some ⟨255#8, true⟩ ∧ s.flags.latchEn = true ∧ s.live.limHi = false := by decide

/-- One count outside each bound in both loops. -/
theorem witness_WorkspaceViolationStops :
    (let s := runAt .runPdffVis .rSample 7 0#32 0#64 none
     s.mcState.isRun = true ∧ phaseFits s.mcState s.phase = true ∧
       s.cal.wwCount + (s.setup.slackHiPath.toNat : ℚ) < (s.enc.count.toInt : ℚ)) ∧
    (let s := runAt .runVis .rVSample 6 0#32 0#64 none
     s.mcState.isRun = true ∧ phaseFits s.mcState s.phase = true ∧
       s.cal.wwCount + (s.setup.slackHiVis.toNat : ℚ) < (s.enc.count.toInt : ℚ)) ∧
    (let s := runAt .runVis .rVSample (-3) 0#32 0#64 none
     s.enc.count.toInt < -(s.setup.slackLo.toNat : ℤ)) := by decide +kernel

theorem witness_FailedCommandsChangeNothing :
    ∃ t, Instr.home.port = .cmd ∧ exec .home State.reset = .next t ∧
      t.rsp = some { status := .errState, data := 0#64 } ∧ Status.errState ≠ .ok ∧ Status.errState ≠ .okDegenerate :=
  ⟨_, rfl, rfl, rfl, by decide, by decide⟩

/-- The rows of R200: MC_INIT, HOME, a run, the three ends of a homing, a run that ends, STOP in each, reset. -/
theorem witness_StateMachineTransitions :
    (∃ t, step (upNext (.command 0x300000000000000000000000) State.reset) = .next t ∧ t.mcState = .idle) ∧
    (∃ t, step (upNext (.command 0x340000000000000000000000) ready) = .next t ∧ t.mcState = .homing) ∧
    (∃ t, step (upNext (.command 0x380000000000000000001388) ready) = .next t ∧ t.mcState = .runOl) ∧
    (∃ t, step (upNext .sequencer (homingAt .hEntry 0 false false)) = .next t ∧ t.mcState = .homeFailFatal) ∧
    (∃ t, step (upNext .sequencer (homingAt .hBackoff 1 true true)) = .next t ∧ t.mcState = .homeFailRec) ∧
    (∃ t, step (upNext .sequencer (homingAt .hSettle2 1 true true)) = .next t ∧ t.mcState = .homed) ∧
    (∃ t, step (upNext (.command 0x3E0000000000000000000000) (homingAt .hSeek 1 true true)) = .next t ∧
      t.mcState = .idle) ∧
    (∃ t, step (upNext (.command 0x3E0000000000000000000000) (runAt .runOl .rSample 0 0#32 0#64 none)) = .next t ∧
      t.mcState = .idle) ∧
    (∃ t, step (upNext .sequencer (latched (runAt .runOl .rSample 0 0#32 0#64 none))) = .next t ∧
      t.mcState = .idle) ∧
    (∃ t, step (upNext .reset ready) = .next t ∧ t.mcState = .uninit) :=
  ⟨⟨_, rfl, by decide⟩, ⟨_, rfl, by decide⟩, ⟨_, rfl, by decide⟩, ⟨_, rfl, by decide⟩, ⟨_, rfl, by decide⟩,
   ⟨_, rfl, by decide +kernel⟩, ⟨_, rfl, by decide⟩, ⟨_, rfl, by decide⟩, ⟨_, rfl, by decide⟩, ⟨_, rfl, by decide⟩⟩

/-- An edge that counts, an ENC_RESET that zeroes and the homing step that zeroes at the lower switch. -/
theorem witness_CountChangesOnlyBy :
    (∃ t, step (upNext (.event 0x0100000100000000000004E2) (encoderAt 0 false true .b [])) = .next t ∧
      t.enc.count ≠ (encoderAt 0 false true .b []).enc.count) ∧
    (∃ t, step (upNext (.command 0x100000000000000000000000) afterV1) = .next t ∧
      t.enc.count ≠ afterV1.enc.count) ∧
    ∃ t, step (upNext .sequencer (homingAt .hCleanDnConf (-5) false true)) = .next t ∧
      t.enc.count ≠ (homingAt .hCleanDnConf (-5) false true).enc.count :=
  ⟨⟨_, rfl, by decide⟩, ⟨_, rfl, by decide⟩, ⟨_, rfl, by decide⟩⟩

/-- A write of K_P and a push while homing. -/
theorem witness_ConfigurationFrozenWhileBusy :
    (homingAt .hSeek 0 true true).mcState.isBusy = true ∧
    (∃ t, step (upNext (.command 0x212300000000000280000000) (homingAt .hSeek 0 true true)) = .next t) ∧
    ∃ t, step (upNext (.command 0x290000000000000080000000) (homingAt .hSeek 0 true true)) = .next t :=
  ⟨by decide, ⟨_, rfl⟩, ⟨_, rfl⟩⟩

theorem witness_StepKeepsMemoryForm :
    State.reset.MemoryOk ∧
    ∃ t, step (upNext (.event 0x0100000100000000000004E2) State.reset) = .next t ∧ t.mem.hist.length = 1 :=
  ⟨reset_memoryOk, ⟨_, rfl, by decide⟩⟩

/-- A busy state with the invariant: a run waiting for its COMMIT. -/
theorem witness_StepTotalAndKeepsInvariant :
    (runAt .runOl .rCommit 0 0#32 0#64 (some ⟨150#8, true⟩)).Inv := by
  refine ⟨⟨by decide, by decide⟩, ⟨by decide, by decide⟩, rfl, ?_, ?_, ⟨by decide, by decide⟩, ⟨by decide, ?_⟩,
    ⟨by decide, by decide⟩, fun _ => ⟨by decide, by decide⟩⟩
  · intro h
    exact absurd h (by decide)
  · exact ⟨fun _ => by decide +kernel, by decide, by decide, by decide, by decide, by decide⟩
  · intro x hx
    exact absurd hx (List.not_mem_nil)

theorem witness_ResetHasInvariant : Config.ofVectors.wf := by decide

end Sys2Proof.Tests
end

section
/-!
PROOFS. Rounding and Q32.32 images (00_scope.md R17, R18): the statement RoundingAndImages (O48).
-/

namespace Sys2Proof.Machine

/-! ## Rounding (R17) -/

theorem abs_roundAway_sub_le_of_nonneg {x : ℚ} (h : 0 ≤ x) : |(roundAway x : ℚ) - x| ≤ 1 / 2 := by
  rw [roundAway_of_nonneg h, abs_le]
  have floor_le := Int.floor_le (x + 1 / 2)
  have lt_floor := Int.lt_floor_add_one (x + 1 / 2)
  constructor <;> linarith

/-- A negative rational is rounded as the negation of a positive one. -/
theorem abs_roundAway_sub_le (x : ℚ) : |(roundAway x : ℚ) - x| ≤ 1 / 2 := by
  rcases le_total 0 x with h | h
  · exact abs_roundAway_sub_le_of_nonneg h
  · have hneg := abs_roundAway_sub_le_of_nonneg (neg_nonneg.mpr h)
    rwa [roundAway_neg, Int.cast_neg, neg_sub_neg, abs_sub_comm] at hneg

/-- Rounding does not cross an integer: half a step is less than the distance to the next one. -/
theorem le_roundAway {m : ℤ} {x : ℚ} (h : (m : ℚ) ≤ x) : m ≤ roundAway x := by
  have near := (abs_le.mp (abs_roundAway_sub_le x)).1
  have : (m : ℚ) < roundAway x + 1 := by linarith
  exact Int.lt_add_one_iff.mp (by exact_mod_cast this)

theorem roundAway_le {m : ℤ} {x : ℚ} (h : x ≤ (m : ℚ)) : roundAway x ≤ m := by
  have := le_roundAway (m := -m) (x := -x) (by push_cast; linarith)
  rw [roundAway_neg] at this
  omega

theorem roundAway_tie (n : ℕ) : roundAway ((n : ℚ) + 1 / 2) = (n : ℤ) + 1 := by
  rw [roundAway_of_nonneg (by positivity), add_assoc, add_halves, Int.floor_add_one, Int.floor_natCast]

theorem roundAway_neg_tie (n : ℕ) : roundAway (-((n : ℚ) + 1 / 2)) = -((n : ℤ) + 1) := by
  rw [roundAway_neg, roundAway_tie]

/-! ## Clips (R17) -/

theorem clip_of_le {v lo hi : ℤ} (h : v ≤ lo) : clip v lo hi = lo :=
  max_eq_left ((min_le_right hi v).trans h)

theorem clip_of_ge {v lo hi : ℤ} (hlh : lo ≤ hi) (h : hi ≤ v) : clip v lo hi = hi := by
  rw [clip, min_eq_left h, max_eq_right hlh]

/-! ## Q32.32 images (R18) -/

theorem val_mul_scale (r : Fixed) : val r * 2 ^ 32 = (r.toInt : ℚ) :=
  div_mul_cancel₀ _ (by norm_num)

/-- The clip keeps the integer inside the signed 64-bit range, so the pattern loses nothing of it. -/
theorem qImage_toInt (x : ℚ) : (qImage x).toInt = clip (roundAway (x * 2 ^ 32)) (-2 ^ 63) (2 ^ 63 - 1) := by
  obtain ⟨hlo, hhi⟩ := clip_bounds (v := roundAway (x * 2 ^ 32)) (lo := -2 ^ 63) (hi := 2 ^ 63 - 1) (by norm_num)
  exact BitVec.toInt_ofInt_eq_self (by norm_num) hlo (by omega)

theorem qImage_toInt_of_mem {x : ℚ} (hlo : -2 ^ 63 ≤ roundAway (x * 2 ^ 32))
    (hhi : roundAway (x * 2 ^ 32) ≤ 2 ^ 63 - 1) : (qImage x).toInt = roundAway (x * 2 ^ 32) := by
  rw [qImage_toInt, clip_of_mem hlo hhi]

theorem qImage_val (r : Fixed) : qImage (val r) = r := by
  have hround : roundAway (val r * 2 ^ 32) = r.toInt := by rw [val_mul_scale, roundAway_intCast]
  have hlo : -2 ^ 63 ≤ r.toInt := BitVec.le_toInt r
  have hhi : r.toInt < 2 ^ 63 := BitVec.toInt_lt
  apply BitVec.eq_of_toInt_eq
  rw [qImage_toInt_of_mem (by omega) (by omega), hround]

/-- Inside the range of patterns the image saturates nothing, so its error is that of `round`, scaled by 2^-32. -/
theorem abs_val_qImage_sub_le {x : ℚ} (hlo : -2 ^ 31 ≤ x) (hhi : x ≤ 2 ^ 31 - 1 / 2 ^ 32) :
    |val (qImage x) - x| ≤ 1 / 2 ^ 33 := by
  have round_lo : -2 ^ 63 ≤ roundAway (x * 2 ^ 32) := le_roundAway (by push_cast; linarith)
  have round_hi : roundAway (x * 2 ^ 32) ≤ 2 ^ 63 - 1 := roundAway_le (by push_cast; linarith)
  have scaled : val (qImage x) * 2 ^ 32 = (roundAway (x * 2 ^ 32) : ℚ) := by
    rw [val_mul_scale, qImage_toInt_of_mem round_lo round_hi]
  have near := abs_roundAway_sub_le (x * 2 ^ 32)
  rw [← scaled, ← sub_mul, abs_mul, abs_of_pos (by norm_num : (0 : ℚ) < 2 ^ 32)] at near
  linarith

theorem qImage_toInt_tie {n : ℕ} (hn : n + 1 < 2 ^ 63) :
    (qImage (((n : ℚ) + 1 / 2) / 2 ^ 32)).toInt = (n : ℤ) + 1 := by
  have hround : roundAway (((n : ℚ) + 1 / 2) / 2 ^ 32 * 2 ^ 32) = (n : ℤ) + 1 := by
    rw [div_mul_cancel₀ _ (by norm_num), roundAway_tie]
  rw [qImage_toInt_of_mem (by omega) (by omega), hround]

theorem qImage_toInt_neg_tie {n : ℕ} (hn : n + 1 < 2 ^ 63) :
    (qImage (-((n : ℚ) + 1 / 2) / 2 ^ 32)).toInt = -((n : ℤ) + 1) := by
  have hround : roundAway (-((n : ℚ) + 1 / 2) / 2 ^ 32 * 2 ^ 32) = -((n : ℤ) + 1) := by
    rw [div_mul_cancel₀ _ (by norm_num), roundAway_neg_tie]
  rw [qImage_toInt_of_mem (by omega) (by omega), hround]

theorem qImage_toInt_of_ge {x : ℚ} (h : 2 ^ 31 - 1 / 2 ^ 32 ≤ x) : (qImage x).toInt = 2 ^ 63 - 1 := by
  rw [qImage_toInt, clip_of_ge (by norm_num) (le_roundAway (by push_cast; linarith))]

theorem qImage_toInt_of_le {x : ℚ} (h : x ≤ -2 ^ 31) : (qImage x).toInt = -2 ^ 63 := by
  rw [qImage_toInt, clip_of_le (roundAway_le (by push_cast; linarith))]

/-- Settles O48: each clause is one lemma on `roundAway` or on `qImage`. -/
theorem roundingAndImages : Obligations.RoundingAndImages :=
  ⟨abs_roundAway_sub_le,
   fun n => ⟨roundAway_tie n, roundAway_neg_tie n⟩,
   qImage_val,
   fun _ => abs_val_qImage_sub_le,
   fun _ hn => ⟨qImage_toInt_tie hn, qImage_toInt_neg_tie hn⟩,
   fun _ => ⟨qImage_toInt_of_ge, qImage_toInt_of_le⟩⟩

end Sys2Proof.Machine
end

section
/-!
PROOFS. What a turn of each agent can do to the state, said once: `Effect` for an operation, `HomingStep` and `RunStep`
for a step of the sequencer, `TurnEffect` for any turn. Every fact about a step is a case split over these relations.
-/

namespace Sys2Proof.Machine

/-! ## Operations -/

/-- The effects an operation can have on the state it acts in. An effect that has a response on the port ends in
`withRsp`; the reads and the refusals have nothing else. -/
inductive Effect : Instr → State → State → Prop
  | drop {i s} (hi : i.port = .evt) : Effect i s s
  | answer {i s} (hi : i.port = .cmd) (st : Status) (d : Data) : Effect i s (s.withRsp st d)
  | edge {s} (p : QPin) (l : Bool) (k : Tick) : Effect (.encEdge p l k) s (acceptEdge p l k s)
  | index {s} (k : Tick) :
      Effect (.idxEdge true k) s { s with enc := { s.enc with idxLog := s.enc.count, idxValid := true, count := 0#32 } }
  | trip {s} (p : LimPin) (he : s.flags.latchEn = true) :
      Effect (.limEdge p false) s { s with duty := 0#8, flags := { s.flags with limitLatch := true } }
  | encReset {s} : Effect .encReset s (s.zeroCount.withRsp .ok 0#64)
  | write {s} (r : Reg) (x : Data) (hw : writeRefusal r x s = none) :
      Effect (.regWr r.sel x) s ((storeReg r x s).withRsp .ok 0#64)
  | clear {s} (m : SpMem) (hb : s.mcState.isBusy = false) : Effect (.spClr m) s ((s.setSp m []).withRsp .ok 0#64)
  | push {s} (m : SpMem) (x : Fixed) (hb : s.mcState.isBusy = false) (hl : (spWords m s).length ≠ s.cfg.spMax) :
      Effect (.spPush m x) s
        ((s.setSp m (spWords m s ++ [x])).withRsp .ok (BitVec.ofNat 64 ((spWords m s).length + 1)))
  | init {s} (hm : s.mcState = .uninit) :
      Effect .mcInit s (({ s with mcState := .idle, phase := .rest } : State).withRsp .ok 0#64)
  | latchAct {s} : Effect .latchAct s (({ s with flags := { s.flags with latchEn := true } } : State).withRsp .ok 0#64)
  | latchDeact {s} :
      Effect .latchDeact s (({ s with flags := { s.flags with latchEn := false } } : State).withRsp .ok 0#64)
  | latchReset {s} :
      Effect .latchReset s (({ s with flags := { s.flags with limitLatch := false } } : State).withRsp .ok 0#64)
  | home {s} (hm : s.mcState.isIls = true) :
      Effect .home s
        (({ s with flags := { s.flags with homed := false }, homeResult := .inProgress, mcState := .homing,
                   phase := .hEntry } : State).withRsp .ok 0#64)
  | run {s i mode nv nd nz} (k : Tick) (hi : (i, mode, nv, nd, nz) ∈ runCommands k)
      (ha : runRefusal nv nd nz s = none) : Effect i s ((s.runAccepted mode k).withRsp .ok 0#64)
  | stopHoming {s} (hm : s.mcState = .homing) :
      Effect .stop s
        (({ s with duty := 0#8, homeResult := .stopped, mcState := .idle, phase := .rest } : State).withRsp .ok 0#64)
  | stopRun {s} (hm : s.mcState.isRun = true) : Effect .stop s ((s.runExit .stopped).withRsp .ok 0#64)
  | stopIdle {s} (hm : s.mcState.isIls = true) : Effect .stop s (s.stopMotor.withRsp .ok 0#64)
  | clrDone {s} : Effect .clrDone s (({ s with flags := { s.flags with allDone := false } } : State).withRsp .ok 0#64)

/-- `r` is a next state that an effect of `i` leads to. -/
def Performs (i : Instr) (s : State) (r : Result) : Prop := ∃ t, r = .next t ∧ Effect i s t

theorem Effect.performs {i : Instr} {s t : State} (h : Effect i s t) : Performs i s (.next t) := ⟨t, rfl, h⟩

theorem performs_drop {i : Instr} {s : State} (hi : i.port = .evt) : Performs i s (drop s) := (Effect.drop hi).performs

theorem performs_respond {i : Instr} {s : State} {st : Status} {d : Data} (hi : i.port = .cmd) :
    Performs i s (respond st d s) :=
  (Effect.answer hi st d).performs

theorem execEncEdge_performs (p : QPin) (l : Bool) (k : Tick) (s : State) :
    Performs (.encEdge p l k) s (execEncEdge p l k s) := by
  unfold execEncEdge
  split
  · exact performs_drop rfl
  split
  · exact performs_drop rfl
  · exact (Effect.edge p l k).performs

theorem execIdxEdge_performs (l : Bool) (k : Tick) (s : State) : Performs (.idxEdge l k) s (execIdxEdge l k s) := by
  unfold execIdxEdge
  split
  · exact performs_drop rfl
  split
  · exact performs_drop rfl
  split
  · exact performs_drop rfl
  · rename_i hl _
    rw [Bool.not_eq_false] at hl
    exact hl ▸ (Effect.index k).performs

theorem execLimEdge_performs (p : LimPin) (l : Bool) (s : State) : Performs (.limEdge p l) s (execLimEdge p l s) := by
  unfold execLimEdge
  split
  · exact performs_drop rfl
  split
  · exact performs_drop rfl
  split
  · exact performs_drop rfl
  · rename_i he hl _
    rw [Bool.not_eq_false] at he
    rw [Bool.not_eq_true] at hl
    exact hl ▸ (Effect.trip p he).performs

theorem execGetCps_performs (s : State) : Performs .getCps s (execGetCps s) := by
  unfold execGetCps
  split <;> exact performs_respond rfl

theorem execHistRd_performs (f : HistField) (i : Nat) (s : State) : Performs (.histRd f i) s (execHistRd f i s) := by
  unfold execHistRd
  split
  · exact performs_respond rfl
  · cases f <;> exact performs_respond rfl

theorem execRegRd_performs (n : BitVec 8) (s : State) : Performs (.regRd n) s (execRegRd n s) := by
  unfold execRegRd
  split <;> exact performs_respond rfl

theorem execRegWr_performs (n : BitVec 8) (x : Data) (s : State) : Performs (.regWr n x) s (execRegWr n x s) := by
  unfold execRegWr
  split
  · exact performs_respond rfl
  split
  · exact performs_respond rfl
  · rename_i _ r hr _ hw
    exact Reg.sel_of_ofSel hr ▸ (Effect.write r x hw).performs

theorem execSpClr_performs (m : SpMem) (s : State) : Performs (.spClr m) s (execSpClr m s) := by
  unfold execSpClr
  split
  · exact performs_respond rfl
  · exact (Effect.clear m (by simpa using ‹¬ s.mcState.isBusy = true›)).performs

theorem execSpPush_performs (m : SpMem) (x : Fixed) (s : State) : Performs (.spPush m x) s (execSpPush m x s) := by
  unfold execSpPush
  split
  · exact performs_respond rfl
  split
  · exact performs_respond rfl
  · rename_i hb hl
    exact (Effect.push m x (by simpa using hb) hl).performs

theorem execSpRd_performs (m : SpMem) (i : Nat) (s : State) : Performs (.spRd m i) s (execSpRd m i s) := by
  unfold execSpRd
  split <;> exact performs_respond rfl

theorem execTrRd_performs (f : TraceField) (i : Nat) (s : State) : Performs (.trRd f i) s (execTrRd f i s) := by
  unfold execTrRd
  split
  · exact performs_respond rfl
  · cases f <;> exact performs_respond rfl

theorem execMcInit_performs (s : State) : Performs .mcInit s (execMcInit s) := by
  unfold execMcInit
  split
  · exact performs_respond rfl
  · exact (Effect.init (not_not.mp ‹_›)).performs

theorem execLatchAct_performs (s : State) : Performs .latchAct s (execLatchAct s) := by
  unfold execLatchAct
  split
  · exact performs_respond rfl
  · exact Effect.latchAct.performs

theorem execLatchDeact_performs (s : State) : Performs .latchDeact s (execLatchDeact s) := by
  unfold execLatchDeact
  split
  · exact performs_respond rfl
  · exact Effect.latchDeact.performs

theorem execLatchReset_performs (s : State) : Performs .latchReset s (execLatchReset s) := by
  unfold execLatchReset
  split
  · exact performs_respond rfl
  · exact Effect.latchReset.performs

theorem execHome_performs (s : State) : Performs .home s (execHome s) := by
  unfold execHome
  split
  · exact performs_respond rfl
  · exact (Effect.home (by simpa using ‹¬ s.mcState.isIls = false›)).performs

theorem runAccept_performs {i : Instr} {mode : McState} {k : Tick} {nv nd nz : Bool} (s : State)
    (hi : (i, mode, nv, nd, nz) ∈ runCommands k) (hp : i.port = .cmd) :
    Performs i s (runAccept mode k nv nd nz s) := by
  unfold runAccept
  split
  · exact performs_respond hp
  · exact (Effect.run k hi ‹_›).performs

/-- STOP by the state it finds: UNINIT, HOMING, a run, or an idle-like state (R220). -/
theorem execStop_performs (s : State) : Performs .stop s (execStop s) := by
  unfold execStop
  split
  · exact performs_respond rfl
  · cases hm : s.mcState with
    | uninit => contradiction
    | homing =>
      rw [State.stopped, hm]
      exact (Effect.stopHoming hm).performs
    | idle | homed | homeFailRec | homeFailFatal =>
      rw [State.stopped, hm]
      exact (Effect.stopIdle (by rw [hm]; rfl)).performs
    | runOl | runPdff | runPdffVis | runVis | runPoint =>
      rw [State.stopped, hm]
      exact (Effect.stopRun (by rw [hm]; rfl)).performs

/-- Every operation answers a next state, with one of its effects. -/
theorem exec_performs (i : Instr) (s : State) : Performs i s (exec i s) :=
  match i with
  | .encEdge p l k => execEncEdge_performs p l k s
  | .idxEdge l k => execIdxEdge_performs l k s
  | .limEdge p l => execLimEdge_performs p l s
  | .encReset => Effect.encReset.performs
  | .getCount => performs_respond rfl
  | .getCps => execGetCps_performs s
  | .histRd f k => execHistRd_performs f k s
  | .regRd n => execRegRd_performs n s
  | .regWr n x => execRegWr_performs n x s
  | .spClr m => execSpClr_performs m s
  | .spPush m x => execSpPush_performs m x s
  | .spRd m k => execSpRd_performs m k s
  | .trRd f k => execTrRd_performs f k s
  | .mcInit => execMcInit_performs s
  | .latchAct => execLatchAct_performs s
  | .latchDeact => execLatchDeact_performs s
  | .latchReset => execLatchReset_performs s
  | .home => execHome_performs s
  | .runOl _ => runAccept_performs s (by simp [runCommands]) rfl
  | .runPdff _ => runAccept_performs s (by simp [runCommands]) rfl
  | .runPdffVis _ => runAccept_performs s (by simp [runCommands]) rfl
  | .runVis _ => runAccept_performs s (by simp [runCommands]) rfl
  | .runPoint _ => runAccept_performs s (by simp [runCommands]) rfl
  | .stop => execStop_performs s
  | .clrDone => Effect.clrDone.performs

theorem effect_of_exec {i : Instr} {s t : State} (h : exec i s = .next t) : Effect i s t := by
  obtain ⟨t', ht, he⟩ := exec_performs i s
  rw [h] at ht
  cases ht
  exact he

/-! ## Homing steps (R241 to R253) -/

/-- What a homing step can do: end the homing (recoverably, fatally for one of two causes, or with success), leave
H_ENTRY, zero the count at the lower switch, calibrate at the upper one, or drive and move to a phase that asks for no
more than the present one has established. -/
inductive HomingStep (s : State) : State → Prop
  | failRec (hp : s.phase = .hBackoff) (hc : |s.c - s.start.toInt| ≤ tolZ s) : HomingStep s s.homeFailRec
  | failEntry (hp : s.phase = .hEntry) (hf : entryFatal s = true) : HomingStep s s.homeFailFatal
  | failSpan (hp : s.phase = .hCleanUpConf) (ha : active .hi s = true) (hc : s.c ≤ 0) : HomingStep s s.homeFailFatal
  | enter (hp : s.phase = .hEntry) (hf : entryFatal s = false) :
      HomingStep s (({ s.zeroCount with start := 0#32 } : State).driveDown.goto .hProbeDn)
  | move (d : Drive) (p : Phase) (he : pastEntry s.phase = true) (hp : pastEntry p = true)
      (hc : pastCalibration p = true → pastCalibration s.phase = true) : HomingStep s ((s.drive d).goto p)
  | lowerZero (hp : s.phase = .hCleanDnConf) : HomingStep s (s.stopMotor.zeroCount.goto .hCleanUp)
  | calibrated (hp : s.phase = .hCleanUpConf) (hc : 0 < s.c) :
      HomingStep s (({ s.stopMotor with cal := calibrate s.setup s.enc.count } : State).goto .hMoveOff)
  | done (hp : s.phase = .hSettle2) (hi : seekInside s = true) : HomingStep s s.homingDone

/-- A move that leaves the outputs as they are. -/
theorem HomingStep.goto {s : State} (p : Phase) (he : pastEntry s.phase = true) (hp : pastEntry p = true)
    (hc : pastCalibration p = true → pastCalibration s.phase = true) : HomingStep s (s.goto p) :=
  .move ⟨s.duty, s.dir⟩ p he hp hc

/-- A drive without a change of phase. -/
theorem HomingStep.drive {s : State} (d : Drive) (he : pastEntry s.phase = true) : HomingStep s (s.drive d) :=
  .move d s.phase he he id

theorem hEntryStep_cases {s : State} (hp : s.phase = .hEntry) : HomingStep s (hEntryStep s) := by
  unfold hEntryStep
  split
  · exact .failEntry hp ‹_›
  · exact .enter hp (by simpa using ‹¬ entryFatal s = true›)

theorem hProbeDnStep_cases {s : State} (hp : s.phase = .hProbeDn) : HomingStep s (hProbeDnStep s) := by
  have he : pastEntry s.phase = true := hp ▸ rfl
  unfold hProbeDnStep
  split
  · exact .goto _ he rfl nofun
  split
  · exact .move _ _ he rfl nofun
  · exact .drive _ he

theorem hProbeUpStep_cases {s : State} (hp : s.phase = .hProbeUp) : HomingStep s (hProbeUpStep s) := by
  have he : pastEntry s.phase = true := hp ▸ rfl
  unfold hProbeUpStep
  split
  · exact .goto _ he rfl nofun
  split
  · exact .move _ _ he rfl nofun
  · exact .drive _ he

theorem hBackoffStep_cases {s : State} (hp : s.phase = .hBackoff) : HomingStep s (hBackoffStep s) := by
  have he : pastEntry s.phase = true := hp ▸ rfl
  unfold hBackoffStep
  split
  · exact .failRec hp ‹_›
  split
  · exact .drive _ he
  · exact .drive _ he

theorem hCleanDnStep_cases {s : State} (hp : s.phase = .hCleanDn) : HomingStep s (hCleanDnStep s) := by
  have he : pastEntry s.phase = true := hp ▸ rfl
  unfold hCleanDnStep
  split
  · exact .goto _ he rfl nofun
  · exact .drive _ he

theorem hCleanDnConfStep_cases {s : State} (hp : s.phase = .hCleanDnConf) : HomingStep s (hCleanDnConfStep s) := by
  unfold hCleanDnConfStep
  split
  · exact .lowerZero hp
  · exact .move _ _ (hp ▸ rfl) rfl nofun

theorem hCleanUpStep_cases {s : State} (hp : s.phase = .hCleanUp) : HomingStep s (hCleanUpStep s) := by
  have he : pastEntry s.phase = true := hp ▸ rfl
  unfold hCleanUpStep
  split
  · exact .goto _ he rfl nofun
  · exact .drive _ he

theorem hCleanUpConfStep_cases {s : State} (hp : s.phase = .hCleanUpConf) : HomingStep s (hCleanUpConfStep s) := by
  unfold hCleanUpConfStep
  split
  · split
    · exact .failSpan hp ‹_› ‹_›
    · exact .calibrated hp (not_le.mp ‹_›)
  · exact .move _ _ (hp ▸ rfl) rfl nofun

theorem hMoveOffStep_cases {s : State} (hp : s.phase = .hMoveOff) : HomingStep s (hMoveOffStep s) := by
  unfold hMoveOffStep
  split
  · exact .drive _ (hp ▸ rfl)
  · exact .goto _ (hp ▸ rfl) rfl fun _ => hp ▸ rfl

theorem hSeekStep_cases {s : State} (hp : s.phase = .hSeek) : HomingStep s (hSeekStep s) := by
  have he : pastEntry s.phase = true := hp ▸ rfl
  unfold hSeekStep
  split
  · exact .move ⟨0#8, s.dir⟩ _ he rfl fun _ => hp ▸ rfl
  split
  · exact .drive _ he
  · exact .drive _ he

theorem hSettle1Step_cases {s : State} (hp : s.phase = .hSettle1) : HomingStep s (hSettle1Step s) := by
  unfold hSettle1Step
  split
  · exact .goto _ (hp ▸ rfl) rfl fun _ => hp ▸ rfl
  · exact .goto _ (hp ▸ rfl) rfl fun _ => hp ▸ rfl

theorem hSettle2Step_cases {s : State} (hp : s.phase = .hSettle2) : HomingStep s (hSettle2Step s) := by
  unfold hSettle2Step
  split
  · exact .done hp ‹_›
  · exact .goto _ (hp ▸ rfl) rfl fun _ => hp ▸ rfl

/-- Every homing phase has a step, and it is a homing step. -/
theorem phaseStep_of_homing {s : State} (hp : s.phase.isHoming = true) :
    ∃ t, phaseStep s = .next t ∧ HomingStep s t := by
  cases hq : s.phase with
  | rest | rWait | rSample | rCommit | rVSample | rVCommit =>
    rw [hq] at hp
    cases hp
  | hEntry => exact ⟨_, by rw [phaseStep, hq], hEntryStep_cases hq⟩
  | hProbeDn => exact ⟨_, by rw [phaseStep, hq], hProbeDnStep_cases hq⟩
  | hBackoff => exact ⟨_, by rw [phaseStep, hq], hBackoffStep_cases hq⟩
  | hProbeUp => exact ⟨_, by rw [phaseStep, hq], hProbeUpStep_cases hq⟩
  | hCleanDn => exact ⟨_, by rw [phaseStep, hq], hCleanDnStep_cases hq⟩
  | hCleanDnConf => exact ⟨_, by rw [phaseStep, hq], hCleanDnConfStep_cases hq⟩
  | hCleanUp => exact ⟨_, by rw [phaseStep, hq], hCleanUpStep_cases hq⟩
  | hCleanUpConf => exact ⟨_, by rw [phaseStep, hq], hCleanUpConfStep_cases hq⟩
  | hMoveOff => exact ⟨_, by rw [phaseStep, hq], hMoveOffStep_cases hq⟩
  | hSeek => exact ⟨_, by rw [phaseStep, hq], hSeekStep_cases hq⟩
  | hSettle1 => exact ⟨_, by rw [phaseStep, hq], hSettle1Step_cases hq⟩
  | hSettle2 => exact ⟨_, by rw [phaseStep, hq], hSettle2Step_cases hq⟩

/-! ## Run steps (R301, R305, R306, R341, R343) -/

/-- What a step of a run can do: wait for the start tick, enter a loop, exit, hand off to the vision loop, sample or
commit. -/
inductive RunStep (s : State) : State → Prop
  | wait : RunStep s s
  | enterVision (hp : s.phase = .rWait) (hm : s.mcState = .runVis) :
      RunStep s ((s.loopEntry.visEntry s.t0).goto .rVSample)
  | enterPath (hp : s.phase = .rWait) (hm : s.mcState ≠ .runVis) :
      RunStep s (({ s.loopEntry with flags := { s.loopEntry.flags with pathStarted := true } } : State).goto .rSample)
  | exit (c : Cause) : RunStep s (s.runExit c)
  | handoff (hm : s.mcState = .runPdffVis) : RunStep s (s.handoff s.live.tick)
  | sample (hp : s.phase = .rSample) (d v : ℚ) :
      RunStep s { s.capture (runMs s) d v with pend := pathLaw (runMs s) d v s, phase := .rCommit }
  | visSample (hp : s.phase = .rVSample) (d v : ℚ) :
      RunStep s { s.capture (runMs s) d v with pend := visionLaw d s, phase := .rVCommit }
  | commit (hp : s.phase = .rCommit) : RunStep s (s.commit.goto .rSample)
  | visCommit (hp : s.phase = .rVCommit) : RunStep s (s.commit.goto .rVSample)

theorem rWaitStep_runStep {s : State} (hp : s.phase = .rWait) : RunStep s (rWaitStep s) := by
  obtain ⟨_, e⟩ | ⟨_, hm, e⟩ | ⟨_, hm, e⟩ := rWaitStep_cases s <;> rw [e]
  · exact .wait
  · exact .enterVision hp hm
  · exact .enterPath hp hm

theorem rSampleStep_runStep {s t : State} (hp : s.phase = .rSample) (h : rSampleStep s = .next t) : RunStep s t := by
  obtain ⟨c, rfl⟩ | ⟨hm, rfl⟩ | ⟨_, _, d, v, _, rfl⟩ := rSampleStep_cases h
  · exact .exit c
  · exact .handoff hm
  · exact .sample hp d v

theorem rVSampleStep_runStep {s t : State} (hp : s.phase = .rVSample) (h : rVSampleStep s = .next t) :
    RunStep s t := by
  obtain ⟨c, rfl⟩ | ⟨_, _, d, v, _, rfl⟩ := rVSampleStep_cases h
  · exact .exit c
  · exact .visSample hp d v

theorem phaseStep_of_run {s t : State} (hp : s.phase.isHoming = false) (h : phaseStep s = .next t) : RunStep s t := by
  unfold phaseStep at h
  cases hq : s.phase with
  | hEntry | hProbeDn | hBackoff | hProbeUp | hCleanDn | hCleanDnConf | hCleanUp | hCleanUpConf | hMoveOff | hSeek
  | hSettle1 | hSettle2 =>
    rw [hq] at hp
    cases hp
  | rest =>
    rw [hq] at h
    cases h
  | rWait =>
    rw [hq] at h
    cases h
    exact rWaitStep_runStep hq
  | rSample =>
    rw [hq] at h
    exact rSampleStep_runStep hq h
  | rCommit =>
    rw [hq] at h
    cases h
    exact .commit hq
  | rVSample =>
    rw [hq] at h
    exact rVSampleStep_runStep hq h
  | rVCommit =>
    rw [hq] at h
    cases h
    exact .visCommit hq

/-- A SAMPLE step of the path loop can stop only on the division by `CPM` (R320). -/
theorem rSampleStep_next {s : State} (hc : s.cal.cpm ≠ 0) : ∃ t, rSampleStep s = .next t := by
  have hi : ∃ t, pathIterate s = .next t := by
    rw [pathIterate, posVel_of_ne hc]
    exact ⟨_, rfl⟩
  unfold rSampleStep
  split_ifs <;> try exact ⟨_, rfl⟩
  cases wsCheck s.setup.slackHiPath s
  exacts [⟨_, rfl⟩, ⟨_, rfl⟩, hi]

/-- A SAMPLE step of the vision loop can stop only on the division by `CPM` (R320). -/
theorem rVSampleStep_next {s : State} (hc : s.cal.cpm ≠ 0) : ∃ t, rVSampleStep s = .next t := by
  have hi : ∃ t, visIterate s = .next t := by
    rw [visIterate, posVel_of_ne hc]
    exact ⟨_, rfl⟩
  unfold rVSampleStep
  split_ifs <;> try exact ⟨_, rfl⟩
  cases wsCheck s.setup.slackHiVis s
  exacts [⟨_, rfl⟩, ⟨_, rfl⟩, hi]

/-! ## Turns (R110, R140, R141, R440) -/

/-- What a turn can do. -/
inductive TurnEffect : Turn → State → State → Prop
  | reset {s} : TurnEffect .reset s s.toReset
  | operation {x s t} (i : Instr) (hi : isTurnOf i x) (he : Effect i s t) : TurnEffect x s t
  | illegalEvent {w s} : TurnEffect (.event w) s (s.setErr evtIllegalBit)
  | illegalCommand {w s} : TurnEffect (.command w) s (s.withRsp .errIllegal 0#64)
  | idle {s} : TurnEffect .sequencer s s
  | homing {s t} (hm : s.mcState = .homing) (hs : HomingStep s t) : TurnEffect .sequencer s t
  | run {s t} (hm : s.mcState.isRun = true) (hs : RunStep s t) : TurnEffect .sequencer s t

theorem sequencerStep_effect {s t : State} (h : sequencerStep s = .next t) : TurnEffect .sequencer s t := by
  obtain ⟨_, rfl⟩ | ⟨hb, hf, hs⟩ := sequencerStep_cases h
  · exact .idle
  · cases hp : s.phase.isHoming
    · exact .run (isRun_of_phaseFits hb hf hp) (phaseStep_of_run hp hs)
    · obtain ⟨t', e, hs'⟩ := phaseStep_of_homing hp
      rw [e] at hs
      cases hs
      exact .homing (homing_of_phaseFits hf hp) hs'

theorem takeTurn_effect {x : Turn} {s t : State} (h : takeTurn x s = .next t) : TurnEffect x s t := by
  obtain ⟨rfl, e⟩ | ⟨i, hi, e⟩ | ⟨⟨w, r, rfl, _⟩, e⟩ | ⟨⟨w, r, rfl, _⟩, e⟩ | ⟨rfl, e⟩ := takeTurn_cases x s <;>
    rw [e] at h
  · cases h
    exact .reset
  · exact .operation i hi (effect_of_exec h)
  · cases h
    exact .illegalEvent
  · cases h
    exact .illegalCommand
  · exact sequencerStep_effect h

/-- A step is a turn taken in the state that sees the step's samples. -/
theorem step_effect {s t : State} (h : step s = .next t) : TurnEffect (nextStimulus s).turn s.presented t :=
  takeTurn_effect h

/-! ## The presented state: the block's own state is that of before (R104) -/

@[simp] theorem State.presented_enc (s : State) : s.presented.enc = s.enc := by
  unfold State.presented; split <;> rfl
@[simp] theorem State.presented_mem (s : State) : s.presented.mem = s.mem := by
  unfold State.presented; split <;> rfl
@[simp] theorem State.presented_mcState (s : State) : s.presented.mcState = s.mcState := by
  unfold State.presented; split <;> rfl
@[simp] theorem State.presented_phase (s : State) : s.presented.phase = s.phase := by
  unfold State.presented; split <;> rfl
@[simp] theorem State.presented_flags (s : State) : s.presented.flags = s.flags := by
  unfold State.presented; split <;> rfl
@[simp] theorem State.presented_setup (s : State) : s.presented.setup = s.setup := by
  unfold State.presented; split <;> rfl
@[simp] theorem State.presented_cfg (s : State) : s.presented.cfg = s.cfg := by
  unfold State.presented; split <;> rfl

/-! ## What a store leaves alone -/

@[simp] theorem storeReg_count (r : Reg) (x : Data) (s : State) : (storeReg r x s).enc.count = s.enc.count := by
  rw [storeReg_frame]
@[simp] theorem storeReg_mem (r : Reg) (x : Data) (s : State) : (storeReg r x s).mem = s.mem := by
  rw [storeReg_frame]
@[simp] theorem storeReg_flags (r : Reg) (x : Data) (s : State) : (storeReg r x s).flags = s.flags := by
  rw [storeReg_frame]
@[simp] theorem storeReg_cfg (r : Reg) (x : Data) (s : State) : (storeReg r x s).cfg = s.cfg := by
  rw [storeReg_frame]

end Sys2Proof.Machine
end

section
/-!
PROOFS. Safety of single steps: the memories keep their form (O58), the latch is sticky (O20), the count has few writers
(O56).
-/

namespace Sys2Proof.Machine

/-! ## Memories and parameters (R33, R60, R61, R76) -/

theorem Effect.memoryOk {i : Instr} {s t : State} (he : Effect i s t) (h : s.MemoryOk) : t.MemoryOk := by
  cases he with
  | edge p l k => exact acceptEdge_memoryOk p l k h
  | write r x hw => exact h.of_eq (by simp) (by simp)
  | clear m hb => exact setSp_nil_memoryOk m h
  | push m x hb hl => exact setSp_push_memoryOk m x h hl
  | _ => exact h

theorem Effect.cfg {i : Instr} {s t : State} (he : Effect i s t) : t.cfg = s.cfg := by
  cases he with
  | write r x hw => simp
  | clear m hb => simp
  | push m x hb hl => simp
  | _ => rfl

theorem HomingStep.memoryOk {s t : State} (hs : HomingStep s t) (h : s.MemoryOk) : t.MemoryOk := by
  cases hs <;> exact h

theorem HomingStep.cfg {s t : State} (hs : HomingStep s t) : t.cfg = s.cfg := by
  cases hs <;> rfl

theorem RunStep.memoryOk {s t : State} (hs : RunStep s t) (h : s.MemoryOk) : t.MemoryOk := by
  cases hs with
  | enterVision hp hm => exact (loopEntry_memoryOk h).of_eq rfl rfl
  | enterPath hp hm => exact (loopEntry_memoryOk h).of_eq rfl rfl
  | sample hp d v => exact (capture_memoryOk (runMs s) d v h).of_eq rfl rfl
  | visSample hp d v => exact (capture_memoryOk (runMs s) d v h).of_eq rfl rfl
  | commit hp => exact h.of_eq (by simp) (by simp)
  | visCommit hp => exact h.of_eq (by simp) (by simp)
  | _ => exact h

theorem RunStep.cfg {s t : State} (hs : RunStep s t) : t.cfg = s.cfg := by
  cases hs with
  | sample hp d v => simp
  | visSample hp d v => simp
  | commit hp => simp
  | visCommit hp => simp
  | _ => rfl

theorem TurnEffect.memoryOk {x : Turn} {s t : State} (he : TurnEffect x s t) (h : s.MemoryOk) : t.MemoryOk := by
  cases he with
  | reset => exact ⟨h.1, resetOf_mem_wf s.cfg⟩
  | operation i hi he => exact he.memoryOk h
  | illegalEvent => exact h
  | illegalCommand => exact h
  | idle => exact h
  | homing hm hs => exact hs.memoryOk h
  | run hm hs => exact hs.memoryOk h

theorem TurnEffect.cfg {x : Turn} {s t : State} (he : TurnEffect x s t) : t.cfg = s.cfg := by
  cases he with
  | reset => rfl
  | operation i hi he => exact he.cfg
  | illegalEvent => rfl
  | illegalCommand => rfl
  | idle => rfl
  | homing hm hs => exact hs.cfg
  | run hm hs => exact hs.cfg

theorem State.MemoryOk.presented {s : State} (h : s.MemoryOk) : s.presented.MemoryOk := h.of_eq (by simp) (by simp)

/-- Settles O58: each effect appends within a capacity, empties or leaves a memory, and none writes the parameters. -/
theorem stepKeepsMemoryForm : Obligations.StepKeepsMemoryForm := by
  intro s t h hstep
  have he := step_effect hstep
  exact ⟨he.memoryOk h.presented, he.cfg.trans s.presented_cfg⟩

/-! ## The latch (R43, R280, R283) -/

/-- The operations that touch the latch. -/
theorem Effect.limitLatch_cases {i : Instr} {s t : State} (he : Effect i s t) :
    t.flags.limitLatch = s.flags.limitLatch ∨ (i = .latchReset ∧ t.flags.limitLatch = false) ∨
      ((∃ p, i = .limEdge p false) ∧ s.flags.latchEn = true ∧ t.flags.limitLatch = true) := by
  cases he with
  | trip p hl => exact .inr (.inr ⟨⟨p, rfl⟩, hl, rfl⟩)
  | latchReset => exact .inr (.inl ⟨rfl, rfl⟩)
  | write r x hw => exact .inl (by simp)
  | clear m hb => exact .inl (by simp)
  | push m x hb hl => exact .inl (by simp)
  | _ => exact .inl rfl

theorem HomingStep.limitLatch {s t : State} (hs : HomingStep s t) : t.flags.limitLatch = s.flags.limitLatch := by
  cases hs <;> rfl

theorem RunStep.limitLatch {s t : State} (hs : RunStep s t) : t.flags.limitLatch = s.flags.limitLatch := by
  cases hs with
  | sample hp d v => simp
  | visSample hp d v => simp
  | commit hp => simp
  | visCommit hp => simp
  | _ => rfl

/-- The turns that touch the latch. -/
theorem TurnEffect.limitLatch_cases {x : Turn} {s t : State} (he : TurnEffect x s t) :
    t.flags.limitLatch = s.flags.limitLatch ∨ ((x = .reset ∨ isTurnOf .latchReset x) ∧ t.flags.limitLatch = false) ∨
      ((∃ p, isTurnOf (.limEdge p false) x) ∧ s.flags.latchEn = true ∧ t.flags.limitLatch = true) := by
  cases he with
  | reset => exact .inr (.inl ⟨.inl rfl, rfl⟩)
  | operation i hi he =>
    obtain h | ⟨rfl, h⟩ | ⟨⟨p, rfl⟩, hl, h⟩ := he.limitLatch_cases
    · exact .inl h
    · exact .inr (.inl ⟨.inr hi, h⟩)
    · exact .inr (.inr ⟨⟨p, hi⟩, hl, h⟩)
  | illegalEvent => exact .inl rfl
  | illegalCommand => exact .inl rfl
  | idle => exact .inl rfl
  | homing hm hs => exact .inl hs.limitLatch
  | run hm hs => exact .inl hs.limitLatch

/-- Settles O20: of the three cases a turn has for the latch, the values before and after leave one. -/
theorem latchStickyUntilReset : Obligations.LatchStickyUntilReset := by
  intro s t hstep
  have he := (step_effect hstep).limitLatch_cases
  rw [State.presented_flags] at he
  obtain h | ⟨hx, h⟩ | ⟨hx, hl, h⟩ := he
  · exact ⟨fun h1 h0 => by simp [h1, h0] at h, fun h0 h1 => by simp [h1, h0] at h⟩
  · exact ⟨fun _ _ => hx, fun _ h1 => by simp [h1] at h⟩
  · exact ⟨fun _ h0 => by simp [h0] at h, fun _ _ => ⟨hl, hx⟩⟩

/-! ## The count (R30) -/

/-- Only a rising edge counts, and it counts one (R163). -/
theorem edgeCount_eq_or (p : QPin) (l other : Bool) (c : S32) :
    (l = true ∧ (edgeCount p l other c = c + 1#32 ∨ edgeCount p l other c = c - 1#32)) ∨ edgeCount p l other c = c := by
  obtain ⟨hl, _, _, e⟩ | ⟨hl, _, _, e⟩ | ⟨_, e⟩ := edgeCount_cases p l other c
  · exact .inl ⟨hl, .inl e⟩
  · exact .inl ⟨hl, .inr e⟩
  · exact .inr e

theorem acceptEdge_count_cases (p : QPin) (l : Bool) (k : Tick) (s : State) :
    (l = true ∧ ((acceptEdge p l k s).enc.count = s.enc.count + 1#32 ∨
      (acceptEdge p l k s).enc.count = s.enc.count - 1#32)) ∨ (acceptEdge p l k s).enc.count = s.enc.count := by
  cases p with
  | a => exact edgeCount_eq_or .a l s.enc.levB s.enc.count
  | b => exact edgeCount_eq_or .b l s.enc.levA s.enc.count

/-- The operations that write the count. -/
theorem Effect.count_cases {i : Instr} {s t : State} (he : Effect i s t) :
    t.enc.count = s.enc.count ∨
      ((t.enc.count = s.enc.count + 1#32 ∨ t.enc.count = s.enc.count - 1#32) ∧ ∃ p k, i = .encEdge p true k) ∨
      (t.enc.count = 0#32 ∧ (i = .encReset ∨ ∃ k, i = .idxEdge true k)) := by
  cases he with
  | edge p l k =>
    obtain ⟨rfl, h⟩ | h := acceptEdge_count_cases p l k s
    · exact .inr (.inl ⟨h, p, k, rfl⟩)
    · exact .inl h
  | index k => exact .inr (.inr ⟨rfl, .inr ⟨k, rfl⟩⟩)
  | encReset => exact .inr (.inr ⟨rfl, .inl rfl⟩)
  | write r x hw => exact .inl (by simp)
  | clear m hb => exact .inl (by simp)
  | push m x hb hl => exact .inl (by simp)
  | _ => exact .inl rfl

theorem HomingStep.count_cases {s t : State} (hs : HomingStep s t) :
    t.enc.count = s.enc.count ∨ (t.enc.count = 0#32 ∧ s.phase ∈ [Phase.hEntry, .hCleanDnConf, .hSettle2]) := by
  cases hs with
  | enter hp hf => exact .inr ⟨rfl, by simp [hp]⟩
  | lowerZero hp => exact .inr ⟨rfl, by simp [hp]⟩
  | done hp hi => exact .inr ⟨rfl, by simp [hp]⟩
  | _ => exact .inl rfl

theorem RunStep.enc {s t : State} (hs : RunStep s t) : t.enc = s.enc := by
  cases hs with
  | sample hp d v => simp
  | visSample hp d v => simp
  | commit hp => simp
  | visCommit hp => simp
  | _ => rfl

/-- The turns that write the count. -/
theorem TurnEffect.count_cases {x : Turn} {s t : State} (he : TurnEffect x s t) :
    t.enc.count = s.enc.count ∨
      ((t.enc.count = s.enc.count + 1#32 ∨ t.enc.count = s.enc.count - 1#32) ∧
        ∃ p k, isTurnOf (.encEdge p true k) x) ∨
      (t.enc.count = 0#32 ∧ (x = .reset ∨ isTurnOf .encReset x ∨ (∃ k, isTurnOf (.idxEdge true k) x) ∨
        (x = .sequencer ∧ s.mcState = .homing ∧ s.phase ∈ [Phase.hEntry, .hCleanDnConf, .hSettle2]))) := by
  cases he with
  | reset => exact .inr (.inr ⟨rfl, .inl rfl⟩)
  | operation i hi he =>
    obtain h | ⟨h, p, k, rfl⟩ | ⟨h, rfl | ⟨k, rfl⟩⟩ := he.count_cases
    · exact .inl h
    · exact .inr (.inl ⟨h, p, k, hi⟩)
    · exact .inr (.inr ⟨h, .inr (.inl hi)⟩)
    · exact .inr (.inr ⟨h, .inr (.inr (.inl ⟨k, hi⟩))⟩)
  | illegalEvent => exact .inl rfl
  | illegalCommand => exact .inl rfl
  | idle => exact .inl rfl
  | homing hm hs =>
    obtain h | ⟨h, hp⟩ := hs.count_cases
    · exact .inl h
    · exact .inr (.inr ⟨h, .inr (.inr (.inr ⟨rfl, hm, hp⟩))⟩)
  | run hm hs => exact .inl (congrArg Encoder.count hs.enc)

/-- Settles O56: a turn that changes the count is one of its writers. -/
theorem countChangesOnlyBy : Obligations.CountChangesOnlyBy := by
  intro s t hstep hne
  have he := (step_effect hstep).count_cases
  rw [State.presented_enc, State.presented_mcState, State.presented_phase] at he
  exact he.resolve_left hne

end Sys2Proof.Machine
end

section
/-!
PROOFS. Register reads (O27) and refused register writes (O29) by number, over the map of 10_state.md R75.
-/

namespace Sys2Proof.Machine

/-! ## The map as a table (R75) -/

/-- Every register beside its number, in the order of R75. -/
def registerTable : List (BitVec 8 × Reg) := allRegs.map fun r => (r.sel, r)

theorem mem_registerTable {p : BitVec 8 × Reg} : p ∈ registerTable ↔ p.2.sel = p.1 := by
  constructor
  · intro h
    obtain ⟨r, _, rfl⟩ := List.mem_map.mp h
    rfl
  · intro h
    exact List.mem_map.mpr ⟨p.2, p.2.mem_allRegs, Prod.ext h rfl⟩

/-! ## REG_RD (R360) -/

theorem exec_regRd_sel (r : Reg) (s : State) : exec (.regRd r.sel) s = .next (s.withRsp .ok (readImage r s)) := by
  simp [exec, execRegRd, respond]

theorem exec_regRd_unmapped {n : BitVec 8} (h : ∀ r : Reg, r.sel ≠ n) (s : State) :
    exec (.regRd n) s = .next (s.withRsp .errUnmapped 0#64) := by
  simp [exec, execRegRd, respond, Reg.ofSel_eq_none.mpr h]

/-- Settles O27: the statement's table is `registerTable`, which holds every register by its number. -/
theorem regRdAnswers : Obligations.RegRdAnswers := by
  show (∀ r : Reg, (r.sel, r) ∈ registerTable) ∧ ∀ s : State,
    (∀ p ∈ registerTable, p.2.sel = p.1 ∧
      exec (.regRd p.1) s = .next (s.withRsp .ok (readImage p.2 s))) ∧
    ∀ n : BitVec 8, (∀ p ∈ registerTable, p.1 ≠ n) → exec (.regRd n) s = .next (s.withRsp .errUnmapped 0#64)
  refine ⟨fun r => mem_registerTable.mpr rfl, fun s => ⟨fun p hp => ?_, fun n hn => ?_⟩⟩
  · have hsel := mem_registerTable.mp hp
    exact ⟨hsel, hsel ▸ exec_regRd_sel p.2 s⟩
  · exact exec_regRd_unmapped (fun r => hn (r.sel, r) (mem_registerTable.mpr rfl)) s

/-! ## REG_WR refused (R362, R405) -/

theorem exec_regWr_unmapped {n : BitVec 8} (h : ∀ r : Reg, r.sel ≠ n) (x : Data) (s : State) :
    exec (.regWr n x) s = .next (s.withRsp .errUnmapped 0#64) := by
  simp [exec, execRegWr, respond, Reg.ofSel_eq_none.mpr h]

theorem exec_regWr_refused {r : Reg} {x : Data} {s : State} {st : Status} (h : writeRefusal r x s = some st) :
    exec (.regWr r.sel x) s = .next (s.withRsp st 0#64) := by
  simp [exec, execRegWr, respond, h]

theorem writeRefusal_of_ro {r : Reg} (h : r.access = .ro) (x : Data) (s : State) :
    writeRefusal r x s = some .errRo := by
  simp [writeRefusal, h]

theorem writeRefusal_of_busy {r : Reg} {s : State} (h : r.access ≠ .ro) (hc : r.isMotorConfig = true)
    (hb : s.mcState.isBusy = true) (x : Data) : writeRefusal r x s = some .errBusy := by
  simp [writeRefusal, h, hc, hb]

theorem writeRefusal_of_illegal {r : Reg} {x : Data} {s : State} (h : r.access ≠ .ro)
    (hb : r.isMotorConfig = true → s.mcState.isBusy = false) (hx : legalValue r x s = false) :
    writeRefusal r x s = some .errRange := by
  cases hc : r.isMotorConfig
  · simp [writeRefusal, h, hc, hx]
  · simp [writeRefusal, h, hb hc, hx]

/-- Settles O29: each refusal is the test of `writeRefusal` that fails first. -/
theorem regWrRefusedInOrder : Obligations.RegWrRefusedInOrder := by
  refine ⟨fun r => by cases r <;> decide, fun x s => ⟨fun n hn => exec_regWr_unmapped hn x s, fun r => ?_⟩⟩
  exact ⟨fun hro => exec_regWr_refused (writeRefusal_of_ro hro x s),
    fun hro hc hb => exec_regWr_refused (writeRefusal_of_busy hro hc hb x),
    fun hro hb hx => exec_regWr_refused (writeRefusal_of_illegal hro hb hx)⟩

end Sys2Proof.Machine
end

section
/-!
PROOFS. The invariant of the block (O59). A state with the invariant is homing, running or at rest; one introduction
lemma for each says what the invariant asks there, and every effect that changes `MC_STATE` or `PHASE` is a case of
one. An effect that does not touch a clause's fields keeps that clause by definition.
-/

namespace Sys2Proof.Machine

/-! ## The three kinds of state (R200) -/

theorem McState.isBusy_of_isRun {m : McState} (h : m.isRun = true) : m.isBusy = true := by
  cases m <;> first | rfl | cases h

theorem McState.isBusy_eq_false_of_isIls {m : McState} (h : m.isIls = true) : m.isBusy = false := by
  cases m <;> first | rfl | cases h

theorem McState.isRun_eq_false_of_isBusy {m : McState} (h : m.isBusy = false) : m.isRun = false := by
  cases m <;> first | rfl | cases h

theorem McState.ne_homing_of_isRun {m : McState} (h : m.isRun = true) : m ≠ .homing := by
  rintro rfl
  cases h

theorem McState.ne_homing_of_isBusy {m : McState} (h : m.isBusy = false) : m ≠ .homing := by
  rintro rfl
  cases h

theorem phaseFits_rest {m : McState} (h : m.isBusy = false) : phaseFits m .rest = true := by
  cases m <;> first | rfl | cases h

theorem phase_eq_rest {m : McState} {p : Phase} (h : m.isBusy = false) (hp : phaseFits m p = true) : p = .rest := by
  cases m <;> first | exact eq_of_beq hp | cases h

theorem phaseFits_rWait {m : McState} (h : m.isRun = true) : phaseFits m .rWait = true := by
  cases m <;> first | rfl | cases h

theorem phaseFits_rest_of_isRun {m : McState} (h : m.isRun = true) : phaseFits m .rest = false := by
  cases m <;> first | rfl | cases h

/-- A COMMIT phase fits wherever the SAMPLE phase of its loop does. -/
theorem phaseFits_commit (m : McState) : phaseFits m .rCommit = phaseFits m .rSample := by
  cases m <;> rfl

theorem phaseFits_visCommit (m : McState) : phaseFits m .rVCommit = phaseFits m .rVSample := by
  cases m <;> rfl

/-- Every run but RUN_VIS has the path loop. -/
theorem phaseFits_rSample {m : McState} (h : m.isRun = true) (hm : m ≠ .runVis) : phaseFits m .rSample = true := by
  cases m <;> first | rfl | exact absurd rfl hm | cases h

theorem isHoming_of_pastEntry {p : Phase} (h : pastEntry p = true) : p.isHoming = true := by
  cases p <;> first | rfl | cases h

/-! ## Clauses by the kind of state -/

theorem State.MotorOffOk.of_isBusy {s : State} (h : s.mcState.isBusy = true) : s.MotorOffOk :=
  fun hb => absurd (h.symm.trans hb) nofun

theorem State.HomedOk.of_isRun {s : State} (hr : s.mcState.isRun = true) (hh : s.flags.homed = true)
    (hc : 0 < s.cal.cpm) : s.HomedOk := by
  have hne : s.mcState ≠ .homing := McState.ne_homing_of_isRun hr
  exact ⟨fun _ => hc, fun _ => hh, fun _ => hh, fun e => absurd e hne, fun e => absurd e hne, fun e => absurd e hne⟩

theorem State.VisionOk.of_not_isRun {s : State} (h : s.mcState.isRun = false) : s.VisionOk := by
  rintro (e | e) <;> rw [e] at h <;> cases h

theorem State.PendOk.of_none {s : State} (hn : s.pend = none) (hp : s.phase ≠ .rCommit) : s.PendOk :=
  ⟨fun h => absurd hn h, fun h => absurd h hp⟩

/-! ## Introducing the invariant -/

/-- The part of the invariant that the sequencer's states have no share in: memories, widths and trace. -/
structure State.DataOk (s : State) : Prop where
  memory : s.MemoryOk
  widths : s.WidthsOk
  trace : s.TraceOk

theorem State.Inv.data {s : State} (h : s.Inv) : s.DataOk := ⟨h.memory, h.widths, h.trace⟩

/-- At rest, the motor is off and nothing is pending or in progress. -/
theorem State.Inv.of_rest {s : State} (hd : s.DataOk) (hb : s.mcState.isBusy = false) (hp : s.phase = .rest)
    (hu : s.duty = 0#8) (hn : s.pend = none) (hc : s.flags.homed = true → 0 < s.cal.cpm)
    (hh : s.mcState = .homed → s.flags.homed = true) (h1 : s.homeResult ≠ .inProgress)
    (h2 : s.runResult ≠ .inProgress) : s.Inv := by
  have hr := McState.isRun_eq_false_of_isBusy hb
  have hne : s.mcState ≠ .homing := McState.ne_homing_of_isBusy hb
  refine ⟨hd.memory, hd.widths, ?_, fun _ => hu, ?_, .of_none hn (by rw [hp]; nofun), hd.trace, ?_, .of_not_isRun hr⟩
  · rw [State.PhaseOk, hp]
    exact phaseFits_rest hb
  · exact ⟨hc, fun e => absurd (hr.symm.trans e) nofun, hh, fun e => absurd e hne, fun e => absurd e hne,
      fun e => absurd e hne⟩
  · exact ⟨iff_of_false h1 hne, iff_of_false h2 (by simp [hr])⟩

/-- In HOMING the axis is not homed, and what the phase presupposes has been established. -/
theorem State.Inv.of_homing {s : State} (hd : s.DataOk) (hm : s.mcState = .homing) (hp : s.phase.isHoming = true)
    (hn : s.pend = none) (hh : s.flags.homed = false)
    (he : pastEntry s.phase = true → 0 < s.setup.limitWidth.toInt)
    (hc : pastCalibration s.phase = true → 0 < s.cal.cpm) (h1 : s.homeResult = .inProgress)
    (h2 : s.runResult ≠ .inProgress) : s.Inv := by
  have hr : s.mcState.isRun = false := by rw [hm]; rfl
  refine ⟨hd.memory, hd.widths, ?_, .of_isBusy (by rw [hm]; rfl), ?_, .of_none hn ?_, hd.trace, ?_, .of_not_isRun hr⟩
  · rw [State.PhaseOk, hm]
    exact hp
  · exact ⟨fun e => absurd (hh.symm.trans e) nofun, fun e => absurd (hr.symm.trans e) nofun,
      fun e => (by rw [hm] at e; cases e), fun _ => hh, fun _ => he, fun _ => hc⟩
  · intro e
    rw [e] at hp
    cases hp
  · exact ⟨iff_of_true h1 hm, iff_of_false h2 (by simp [hr])⟩

/-- In a run, the axis is homed, and the phase, the pending write and the vision binding fit the mode. -/
theorem State.Inv.of_run {s : State} (hd : s.DataOk) (hr : s.mcState.isRun = true) (hp : s.PhaseOk)
    (hh : s.flags.homed = true) (hc : 0 < s.cal.cpm) (hn : s.PendOk) (h1 : s.homeResult ≠ .inProgress)
    (h2 : s.runResult = .inProgress) (hv : s.VisionOk) : s.Inv := by
  have hne : s.mcState ≠ .homing := McState.ne_homing_of_isRun hr
  exact ⟨hd.memory, hd.widths, hp, .of_isBusy (McState.isBusy_of_isRun hr), .of_isRun hr hh hc, hn, hd.trace,
    ⟨iff_of_false h1 hne, iff_of_true h2 hr⟩, hv⟩

/-! ## What the invariant says of each kind of state -/

theorem State.Inv.cpm_pos {s : State} (h : s.Inv) (hh : s.flags.homed = true) : 0 < s.cal.cpm := by
  obtain ⟨hcpm, _⟩ := h.homed
  exact hcpm hh

theorem State.Inv.homed_of_isRun {s : State} (h : s.Inv) (hr : s.mcState.isRun = true) : s.flags.homed = true := by
  obtain ⟨_, hrun, _⟩ := h.homed
  exact hrun hr

theorem State.Inv.homed_of_homed {s : State} (h : s.Inv) (hm : s.mcState = .homed) : s.flags.homed = true := by
  obtain ⟨_, _, hhomed, _⟩ := h.homed
  exact hhomed hm

theorem State.Inv.cpm_pos_of_isRun {s : State} (h : s.Inv) (hr : s.mcState.isRun = true) : 0 < s.cal.cpm :=
  h.cpm_pos (h.homed_of_isRun hr)

/-- Nothing is pending outside a COMMIT phase. -/
theorem State.Inv.pend_eq_none {s : State} (h : s.Inv) (h1 : s.phase ≠ .rCommit) (h2 : s.phase ≠ .rVCommit) :
    s.pend = none := by
  by_contra hp
  obtain e | e := h.pend.1 hp
  · exact h1 e
  · exact h2 e

theorem State.Inv.phase_eq_rest {s : State} (h : s.Inv) (hb : s.mcState.isBusy = false) : s.phase = .rest :=
  Machine.phase_eq_rest hb h.phase

theorem State.Inv.isHoming_phase {s : State} (h : s.Inv) (hm : s.mcState = .homing) : s.phase.isHoming = true := by
  have hp := h.phase
  rwa [State.PhaseOk, hm, phaseFits_homing] at hp

theorem State.Inv.pend_eq_none_of_rest {s : State} (h : s.Inv) (hb : s.mcState.isBusy = false) : s.pend = none :=
  h.pend_eq_none (by rw [h.phase_eq_rest hb]; nofun) (by rw [h.phase_eq_rest hb]; nofun)

theorem State.Inv.pend_eq_none_of_homing {s : State} (h : s.Inv) (hm : s.mcState = .homing) : s.pend = none := by
  have hp := h.isHoming_phase hm
  exact h.pend_eq_none (fun e => by rw [e] at hp; cases hp) (fun e => by rw [e] at hp; cases hp)

theorem State.Inv.homeResult_ne {s : State} (h : s.Inv) (hm : s.mcState ≠ .homing) : s.homeResult ≠ .inProgress :=
  fun e => hm (h.results.1.mp e)

theorem State.Inv.runResult_ne {s : State} (h : s.Inv) (hr : s.mcState.isRun = false) : s.runResult ≠ .inProgress :=
  fun e => absurd (hr.symm.trans (h.results.2.mp e)) nofun

/-- A step that stays in the run keeps the invariant if its data, its phase and its pending write are right. -/
theorem State.Inv.of_same_run {s t : State} (h : s.Inv) (hr : s.mcState.isRun = true) (hd : t.DataOk)
    (hp : phaseFits s.mcState t.phase = true) (hn : t.PendOk) (hm : t.mcState = s.mcState := by simp)
    (hh : t.flags.homed = s.flags.homed := by simp) (hc : t.cal = s.cal := by simp)
    (hs : t.setup = s.setup := by simp) (h1 : t.homeResult = s.homeResult := by simp)
    (h2 : t.runResult = s.runResult := by simp) : t.Inv := by
  refine .of_run hd (hm ▸ hr) ?_ (hh ▸ h.homed_of_isRun hr) (hc ▸ h.cpm_pos_of_isRun hr) hn ?_ ?_ ?_
  · rwa [State.PhaseOk, hm]
  · exact h1 ▸ h.homeResult_ne (McState.ne_homing_of_isRun hr)
  · exact h2 ▸ h.results.2.mpr hr
  · rw [State.VisionOk, hm, hs]
    exact h.vision

/-! ## Updates that touch few clauses -/

theorem State.Inv.withRsp {s : State} (h : s.Inv) (st : Status) (d : Data) : (s.withRsp st d).Inv := { h with }

theorem State.Inv.presented {s : State} (h : s.Inv) : s.presented.Inv := by
  obtain ⟨l, sc, n, e⟩ := s.presented_eq
  rw [e]
  exact { h with }

theorem State.Inv.acceptEdge {s : State} (h : s.Inv) (p : QPin) (l : Bool) (k : Tick) :
    (Machine.acceptEdge p l k s).Inv :=
  { h with memory := acceptEdge_memoryOk p l k h.memory }

/-- Setpoints are in no clause but the capacities. -/
theorem State.Inv.setSp {s : State} (h : s.Inv) (m : SpMem) (ws : List Fixed) (hm : (s.setSp m ws).MemoryOk) :
    (s.setSp m ws).Inv := by
  cases m <;> exact { h with memory := hm }

/-- A write is accepted only in a state whose clauses do not look at the register written, but for the widths (R363). -/
theorem State.Inv.storeReg {s : State} (h : s.Inv) {r : Reg} {x : Data} (hw : writeRefusal r x s = none) :
    (Machine.storeReg r x s).Inv := by
  obtain ⟨_, hfree, hlegal⟩ := writeRefusal_eq_none.mp hw
  have hwidths : (Machine.storeReg r x s).WidthsOk := storeReg_widths hlegal h.widths
  cases hc : r.isMotorConfig with
  | false =>
    have hsetup := storeReg_setup_of_not hc x s
    rw [storeReg_frame, hsetup]
    exact { h with }
  | true =>
    have hb := hfree hc
    rw [storeReg_frame]
    exact .of_rest ⟨h.memory, hwidths, h.trace⟩ hb (h.phase_eq_rest hb) (h.motorOff hb) (h.pend_eq_none_of_rest hb)
      h.cpm_pos h.homed_of_homed (h.homeResult_ne (McState.ne_homing_of_isBusy hb))
      (h.runResult_ne (McState.isRun_eq_false_of_isBusy hb))

/-! ## Ends of homings and runs -/

/-- A run ends at rest, still homed (R303). -/
theorem State.Inv.runExit {s : State} (h : s.Inv) (hr : s.mcState.isRun = true) (c : Cause) : (s.runExit c).Inv :=
  .of_rest { h.data with } rfl rfl rfl rfl h.cpm_pos nofun
    (h.homeResult_ne (McState.ne_homing_of_isRun hr)) nofun

/-- The five RUN commands enter runs, and those that enter a vision mode ask for vision (R212 to R216). -/
theorem isRun_of_mem_runCommands {k : Tick} {i : Instr} {mode : McState} {nv nd nz : Bool}
    (h : (i, mode, nv, nd, nz) ∈ runCommands k) :
    mode.isRun = true ∧ (mode = .runVis ∨ mode = .runPdffVis → nz = true) := by
  simp only [runCommands, List.mem_cons, Prod.mk.injEq, List.not_mem_nil, or_false] at h
  rcases h with ⟨_, rfl, _, _, rfl⟩ | ⟨_, rfl, _, _, rfl⟩ | ⟨_, rfl, _, _, rfl⟩ | ⟨_, rfl, _, _, rfl⟩ |
    ⟨_, rfl, _, _, rfl⟩ <;> decide

/-- An accepted RUN command enters its mode homed, with vision where the mode needs it (R211). -/
theorem State.Inv.runAccepted {s : State} (h : s.Inv) {i : Instr} {mode : McState} {k : Tick} {nv nd nz : Bool}
    (hi : (i, mode, nv, nd, nz) ∈ runCommands k) (ha : runRefusal nv nd nz s = none) :
    (s.runAccepted mode k).Inv := by
  obtain ⟨hr, hvis⟩ := isRun_of_mem_runCommands hi
  obtain ⟨hils, _, _, hh, hz⟩ := runRefusal_eq_none.mp ha
  exact .of_run { h.data with } hr (phaseFits_rWait hr) hh (h.cpm_pos hh) (.of_none rfl nofun)
    (h.homeResult_ne (McState.ne_homing_of_isBusy (McState.isBusy_eq_false_of_isIls hils))) rfl fun hm => hz (hvis hm)

/-! ## The trace (R330) -/

/-- A due capture comes after everything captured so far. -/
theorem State.TraceOk.lt_of_captureDue {s : State} (h : s.TraceOk) {t : Nat} (hd : captureDue t s = true) :
    ∀ x ∈ s.mem.trace, x.ms.toNat < t := by
  intro x hx
  obtain ⟨m, hm, hle⟩ := h.2 x hx
  obtain hn | ⟨m', hm', hlt⟩ := captureDue_eq_true.mp hd
  · rw [hm] at hn
    cases hn
  · rw [hm] at hm'
    cases hm'
    omega

theorem State.TraceOk.capture {s : State} (h : s.TraceOk) {t : Nat} (ht : t < 2 ^ 32) (d v : ℚ) :
    (s.capture t d v).TraceOk := by
  have hms : (BitVec.ofNat 32 t).toNat = t := BitVec.toNat_ofNat t 32 ▸ Nat.mod_eq_of_lt ht
  obtain ⟨_, e⟩ | ⟨hd, _, e⟩ | ⟨hd, _, e⟩ := capture_cases s t d v <;> rw [e]
  · exact h
  · have hlt := h.lt_of_captureDue hd
    refine ⟨List.pairwise_append.mpr ⟨h.1, List.pairwise_singleton _ _, fun x hx y hy => ?_⟩, fun x hx => ⟨_, rfl, ?_⟩⟩
    · rw [List.mem_singleton.mp hy, hms]
      exact hlt x hx
    · rw [hms]
      obtain hx | hx := List.mem_append.mp hx
      · exact (hlt x hx).le
      · rw [List.mem_singleton.mp hx, hms]
  · exact ⟨h.1, fun x hx => ⟨_, rfl, hms.symm ▸ (h.lt_of_captureDue hd x hx).le⟩⟩

theorem State.DataOk.capture {s : State} (h : s.DataOk) (d v : ℚ) : (s.capture (runMs s) d v).DataOk :=
  ⟨capture_memoryOk _ d v h.memory, by rw [State.WidthsOk, State.capture_setup]; exact h.widths,
    h.trace.capture (elapsedMs_lt _ _) d v⟩

/-- A loop entry empties the trace, and `LAST_MS` with it (R301). -/
theorem State.DataOk.loopEntry {s : State} (h : s.DataOk) : s.loopEntry.DataOk :=
  ⟨loopEntry_memoryOk h.memory, h.widths, List.Pairwise.nil, nofun⟩

theorem State.DataOk.commit {s : State} (h : s.DataOk) : s.commit.DataOk := by
  cases hp : s.pend with
  | none => rwa [commit_of_none hp]
  | some d =>
    rw [commit_of_some hp]
    exact { h with }

/-! ## Operations -/

theorem Effect.inv {i : Instr} {s t : State} (he : Effect i s t) (h : s.Inv) : t.Inv := by
  cases he with
  | drop hi => exact h
  | answer hi st d => exact h.withRsp st d
  | edge p l k => exact h.acceptEdge p l k
  | index k => exact { h with }
  | trip p hl => exact { h with motorOff := fun _ => rfl }
  | encReset => exact { h with }
  | write r x hw => exact (h.storeReg hw).withRsp _ _
  | clear m hb => exact (h.setSp m _ (setSp_nil_memoryOk m h.memory)).withRsp _ _
  | push m x hb hl => exact (h.setSp m _ (setSp_push_memoryOk m x h.memory hl)).withRsp _ _
  | init hm =>
    have hb : s.mcState.isBusy = false := by rw [hm]; rfl
    exact .of_rest { h.data with } rfl rfl (h.motorOff hb) (h.pend_eq_none_of_rest hb) h.cpm_pos nofun
      (h.homeResult_ne (by rw [hm]; nofun)) (h.runResult_ne (by rw [hm]; rfl))
  | latchAct => exact { h with }
  | latchDeact => exact { h with }
  | latchReset => exact { h with }
  | home hm =>
    have hb := McState.isBusy_eq_false_of_isIls hm
    exact .of_homing { h.data with } rfl rfl (h.pend_eq_none_of_rest hb) rfl nofun nofun rfl
      (h.runResult_ne (McState.isRun_eq_false_of_isBusy hb))
  | run k hi ha => exact (h.runAccepted hi ha).withRsp _ _
  | stopHoming hm =>
    exact .of_rest { h.data with } rfl rfl rfl (h.pend_eq_none_of_homing hm) h.cpm_pos nofun nofun
      (h.runResult_ne (by rw [hm]; rfl))
  | stopRun hm => exact (h.runExit hm .stopped).withRsp _ _
  | stopIdle hm => exact { h with motorOff := fun _ => rfl }
  | clrDone => exact { h with }

/-! ## Homing -/

/-- The widths pass the entry tests only if the limit width is positive (R241). -/
theorem limitWidth_pos_of_entry {s : State} (h : entryFatal s = false) : 0 < s.setup.limitWidth.toInt := by
  simp only [entryFatal, Bool.or_eq_false_iff, decide_eq_false_iff_not, not_le] at h
  obtain ⟨⟨_, hpos⟩, _⟩ := h
  exact hpos

/-- A positive span over a positive width gives a positive `CPM` (R57, R247). -/
theorem calibrate_cpm_pos {c : Setup} {span : S32} (hs : 0 < span.toInt) (hw : 0 < c.limitWidth.toInt) :
    0 < (calibrate c span).cpm :=
  div_pos (by exact_mod_cast hs) (val_pos.mpr hw)

theorem HomingStep.inv {s t : State} (hs : HomingStep s t) (h : s.Inv) (hm : s.mcState = .homing) : t.Inv := by
  obtain ⟨_, _, _, hunhomed, hentry, hcal⟩ := h.homed
  have hn := h.pend_eq_none_of_homing hm
  have hhome := h.results.1.mpr hm
  have hrun := h.runResult_ne (by rw [hm]; rfl)
  cases hs with
  | failRec hp hc => exact .of_rest { h.data with } rfl rfl rfl hn h.cpm_pos nofun nofun hrun
  | failEntry hp hf => exact .of_rest { h.data with } rfl rfl rfl hn h.cpm_pos nofun nofun hrun
  | failSpan hp ha hc => exact .of_rest { h.data with } rfl rfl rfl hn h.cpm_pos nofun nofun hrun
  | enter hp hf =>
    exact .of_homing { h.data with } hm rfl hn (hunhomed hm) (fun _ => limitWidth_pos_of_entry hf) nofun hhome hrun
  | move d p he hp hc =>
    exact .of_homing { h.data with } hm (isHoming_of_pastEntry hp) hn (hunhomed hm) (fun _ => hentry hm he)
      (fun hp => hcal hm (hc hp)) hhome hrun
  | lowerZero hp =>
    exact .of_homing { h.data with } hm rfl hn (hunhomed hm) (fun _ => hentry hm (hp ▸ rfl)) nofun hhome hrun
  | calibrated hp hc =>
    have hw := hentry hm (hp ▸ rfl)
    exact .of_homing { h.data with } hm rfl hn (hunhomed hm) (fun _ => hw) (fun _ => calibrate_cpm_pos hc hw) hhome
      hrun
  | done hp hi =>
    exact .of_rest { h.data with } rfl rfl rfl hn (fun _ => hcal hm (hp ▸ rfl)) (fun _ => rfl) nofun hrun

/-! ## Runs -/

/-- The path loop's modes have a law, so a SAMPLE leaves a write for the COMMIT (R305). -/
theorem pathLaw_ne_none {s : State} (h : phaseFits s.mcState .rSample = true) (t : Nat) (d v : ℚ) :
    pathLaw t d v s ≠ none := by
  unfold pathLaw
  cases hm : s.mcState with
  | uninit | idle | homing | homeFailRec | homeFailFatal | homed | runVis =>
    rw [hm] at h
    cases h
  | runOl | runPdff | runPdffVis | runPoint => nofun

theorem commit_pend (s : State) : s.commit.pend = none := by
  cases hp : s.pend with
  | none => rw [commit_of_none hp, hp]
  | some d => rw [commit_of_some hp]

theorem RunStep.inv {s t : State} (hs : RunStep s t) (h : s.Inv) (hr : s.mcState.isRun = true) : t.Inv := by
  have hfit : phaseFits s.mcState s.phase = true := h.phase
  cases hs with
  | wait => exact h
  | enterVision hp hm =>
    have hn := h.pend_eq_none (by rw [hp]; nofun) (by rw [hp]; nofun)
    exact h.of_same_run hr { h.data.loopEntry with } (by rw [hm]; rfl) (.of_none hn nofun)
  | enterPath hp hm =>
    have hn := h.pend_eq_none (by rw [hp]; nofun) (by rw [hp]; nofun)
    exact h.of_same_run hr { h.data.loopEntry with } (phaseFits_rSample hr hm) (.of_none hn nofun)
  | exit c => exact h.runExit hr c
  | handoff hm => exact h.of_same_run hr { h.data with } (by rw [hm]; rfl) (.of_none rfl nofun)
  | sample hp d v =>
    rw [hp] at hfit
    exact h.of_same_run hr { h.data.capture d v with } (by rwa [phaseFits_commit])
      ⟨fun _ => .inl rfl, fun _ => pathLaw_ne_none hfit _ d v⟩
  | visSample hp d v =>
    rw [hp] at hfit
    exact h.of_same_run hr { h.data.capture d v with } (by rwa [phaseFits_visCommit]) ⟨fun _ => .inr rfl, nofun⟩
  | commit hp =>
    rw [hp, phaseFits_commit] at hfit
    exact h.of_same_run hr { h.data.commit with } hfit (.of_none (commit_pend s) nofun)
  | visCommit hp =>
    rw [hp, phaseFits_visCommit] at hfit
    exact h.of_same_run hr { h.data.commit with } hfit (.of_none (commit_pend s) nofun)

/-! ## Turns and steps -/

theorem toReset_inv {s : State} (h : s.cfg.wf) : s.toReset.Inv :=
  .of_rest ⟨⟨h, resetOf_mem_wf s.cfg⟩, ⟨(by decide : 0 ≤ (0#64).toInt), le_rfl⟩, List.Pairwise.nil, nofun⟩
    rfl rfl rfl rfl nofun nofun nofun nofun

theorem TurnEffect.inv {x : Turn} {s t : State} (he : TurnEffect x s t) (h : s.Inv) : t.Inv := by
  cases he with
  | reset => exact toReset_inv h.memory.1
  | operation i hi he => exact he.inv h
  | illegalEvent => exact { h with }
  | illegalCommand => exact h.withRsp _ _
  | idle => exact h
  | homing hm hs => exact hs.inv h hm
  | run hm hs => exact hs.inv h hm

/-- A fitting phase of a run has a step unless it must divide by a `CPM` of 0 (R320). -/
theorem phaseStep_next_of_run {s : State} (hr : s.mcState.isRun = true) (hf : s.PhaseOk) (hc : s.cal.cpm ≠ 0) :
    ∃ t, phaseStep s = .next t := by
  rw [State.PhaseOk] at hf
  unfold phaseStep
  cases hp : s.phase with
  | rest =>
    rw [hp, phaseFits_rest_of_isRun hr] at hf
    cases hf
  | rSample => exact rSampleStep_next hc
  | rVSample => exact rVSampleStep_next hc
  | _ => exact ⟨_, rfl⟩

/-- A busy state with the invariant has a step: its phase fits, and a run's `CPM` is not 0 (R320, R401). -/
theorem sequencerStep_next {s : State} (h : s.Inv) : ∃ t, sequencerStep s = .next t := by
  cases hb : s.mcState.isBusy with
  | false => exact ⟨s, sequencerStep_idle hb⟩
  | true =>
    rw [sequencerStep_busy hb h.phase]
    cases hp : s.phase.isHoming with
    | true =>
      obtain ⟨t, e, _⟩ := phaseStep_of_homing hp
      exact ⟨t, e⟩
    | false =>
      have hr := isRun_of_phaseFits hb h.phase hp
      exact phaseStep_next_of_run hr h.phase (h.cpm_pos_of_isRun hr).ne'

theorem takeTurn_next (x : Turn) {s : State} (h : s.Inv) : ∃ t, takeTurn x s = .next t := by
  obtain ⟨_, e⟩ | ⟨i, _, e⟩ | ⟨_, e⟩ | ⟨_, e⟩ | ⟨_, e⟩ := takeTurn_cases x s <;> rw [e]
  · exact ⟨_, rfl⟩
  · obtain ⟨t, e, _⟩ := exec_performs i s
    exact ⟨t, e⟩
  · exact ⟨_, rfl⟩
  · exact ⟨_, rfl⟩
  · exact sequencerStep_next h

/-- Settles O59: every turn has a next state from a state with the invariant, and every effect of a turn keeps it. -/
theorem stepTotalAndKeepsInvariant : Obligations.StepTotalAndKeepsInvariant := by
  intro s h
  obtain ⟨t, ht⟩ := takeTurn_next (nextStimulus s).turn h.presented
  exact ⟨t, ht, (takeTurn_effect ht).inv h.presented⟩

end Sys2Proof.Machine
end

section
/-!
PROOFS. Words over a narrower channel (O5): 20_memory.md R102, 30_encoding.md R133.
-/

namespace Sys2Proof

/-! ## The parts of a word, counted from the most significant (R102) -/

theorem serialBytes_eq_map (w : OpWord) :
    serialBytes w = (List.range 12).map fun j => w.extractLsb' (88 - 8 * j) 8 := rfl

theorem serialWords_eq_map (w : OpWord) :
    serialWords w = (List.range 3).map fun j => w.extractLsb' (64 - 32 * j) 32 := rfl

theorem serialRspBytes_eq_map (r : RspWord) :
    serialRspBytes r = (List.range 9).map fun j => r.extractLsb' (64 - 8 * j) 8 := rfl

/-! ## Round trips (R102): adjacent parts join to the part they cover, all of them to the word -/

theorem wordOfSerial_serialBytes_append (w : OpWord) (rest : List (BitVec 8)) :
    wordOfSerial (serialBytes w ++ rest) = some (w, rest) := by
  simp only [serialBytes, wordOfSerial, List.cons_append, List.nil_append,
    BitVec.extractLsb'_append_extractLsb'_eq_extractLsb']
  rw [BitVec.extractLsb'_eq_self]

theorem rspOfSerial_serialRspBytes_append (r : RspWord) (rest : List (BitVec 8)) :
    rspOfSerial (serialRspBytes r ++ rest) = some (r, rest) := by
  simp only [serialRspBytes, rspOfSerial, List.cons_append, List.nil_append,
    BitVec.extractLsb'_append_extractLsb'_eq_extractLsb']
  rw [BitVec.extractLsb'_eq_self]

/-! ## The fields of a response (R133) -/

namespace Machine

theorem Response.status_word (r : Response) : r.word.extractLsb' 64 8 = r.status.code :=
  BitVec.extractLsb'_append_eq_left

theorem Response.data_word (r : Response) : r.word.extractLsb' 0 64 = r.data :=
  BitVec.extractLsb'_append_eq_right

/-- Settles O5: the parts of each word by position, its round trip, and the fields of a response. -/
theorem serialRoundTrip : Obligations.SerialRoundTrip := by
  refine ⟨fun w rest => ⟨wordOfSerial_serialBytes_append w rest, rfl, rfl, fun j hj => ?_, fun j hj => ?_⟩,
    fun r rest => ⟨rspOfSerial_serialRspBytes_append r rest, rfl, fun j hj => ?_⟩,
    fun r => ⟨r.status_word, r.data_word⟩⟩
  · simp [serialBytes_eq_map, hj]
  · simp [serialWords_eq_map, hj]
  · simp [serialRspBytes_eq_map, hj]

end Machine
end Sys2Proof
end

section
/-!
PROOFS. A turn that brings a legal word (O6), and the latch race (O51): 20_memory.md R110, R114.
-/

namespace Sys2Proof.Machine

/-! ## Turns that bring a word (R130) -/

theorem takeTurn_portTurn_of_ok {p : Port} {w : OpWord} {i : Instr} (h : decode p w = .ok i) (s : State) :
    takeTurn (portTurn p w) s = exec i s := by
  cases p <;> simp [portTurn, takeTurn, h]

/-- Settles O6: the next stimulus is the script's first, and its turn runs what its word decodes to. -/
theorem stepRunsDecoded : Obligations.StepRunsDecoded := by
  intro s p w l rest i hs hd
  rw [step, nextStimulus_cons s _ _ hs, State.presented_cons s _ _ hs, takeTurn_portTurn_of_ok hd]

/-! ## The latch race (R114) -/

/-- R280: a falling edge that the re-read of the pin confirms trips the latch. -/
theorem exec_limEdge_trips {p : LimPin} {s : State} (he : s.flags.latchEn = true) (hp : pinRead p s = false) :
    exec (.limEdge p false) s = .next { s with duty := 0#8, flags := { s.flags with limitLatch := true } } := by
  simp [exec, execLimEdge, he, hp]

/-- R306, R343: the COMMIT of either loop writes the pending drive and goes to the SAMPLE of that loop. -/
theorem sequencerStep_commit {s : State} {d : Drive} (hd : s.pend = some d) (hr : s.mcState.isRun = true)
    (hf : s.PhaseOk) (hp : s.phase = .rCommit ∨ s.phase = .rVCommit) :
    ∃ q, (q = .rSample ∨ q = .rVSample) ∧ phaseFits s.mcState q = true ∧
      sequencerStep s = .next (({ s with duty := d.duty, dir := d.dir, pend := none } : State).goto q) := by
  rw [← commit_of_some hd, sequencerStep_busy (McState.isBusy_of_isRun hr) hf]
  unfold State.PhaseOk at hf
  obtain hp | hp := hp <;> rw [hp] at hf
  · exact ⟨.rSample, .inl rfl, phaseFits_commit _ ▸ hf, by rw [phaseStep, hp, rCommitStep]⟩
  · exact ⟨.rVSample, .inr rfl, phaseFits_visCommit _ ▸ hf, by rw [phaseStep, hp, rVCommitStep]⟩

/-- R305, R341: the SAMPLE of either loop tests the latch before all else. -/
theorem sequencerStep_sample_of_limitLatch {s : State} (hr : s.mcState.isRun = true) (hf : s.PhaseOk)
    (hp : s.phase = .rSample ∨ s.phase = .rVSample) (hl : s.flags.limitLatch = true) :
    sequencerStep s = .next (s.runExit .abortLatch) := by
  rw [sequencerStep_busy (McState.isBusy_of_isRun hr) hf, phaseStep]
  obtain hp | hp := hp <;> rw [hp]
  · exact if_pos hl
  · exact if_pos hl

/-- Settles O51: the trip leaves `PEND` and `PHASE`, the COMMIT leaves the latch, and the next SAMPLE sees it. -/
theorem latchRaceOneIteration : Obligations.LatchRaceOneIteration := by
  intro s p d l2 l3 hr hf hp hd he hpin
  have hread : pinRead p s = false := by cases p <;> exact hpin
  obtain ⟨q, hq, hfq, hcommit⟩ := sequencerStep_commit
    (s := { s with duty := 0#8, flags := { s.flags with limitLatch := true }, live := l2 }) hd hr hf hp
  exact ⟨_, _, _, exec_limEdge_trips he hread, rfl, rfl, hcommit, rfl, rfl, rfl,
    sequencerStep_sample_of_limitLatch hr hfq hq rfl, rfl, rfl, rfl, rfl, rfl⟩

end Sys2Proof.Machine
end

section
/-!
PROOFS. The configuration and the setpoints while busy (O57): 20_memory.md R115, 45_register_access.md R363.
-/

namespace Sys2Proof.Machine

/-- `t` has the configuration and the setpoints of `s`: what a homing or a run is given to work with (R115). -/
def State.SameProgram (s t : State) : Prop :=
  t.setup = s.setup ∧ t.mem.vel = s.mem.vel ∧ t.mem.dist = s.mem.dist

theorem State.SameProgram.refl (s : State) : s.SameProgram s := ⟨rfl, rfl, rfl⟩

/-- R330: a capture may append to the trace, and touches no other memory. -/
theorem State.SameProgram.capture (s : State) (t : Nat) (d v : ℚ) : s.SameProgram (s.capture t d v) := by
  obtain ⟨_, e⟩ | ⟨_, _, e⟩ | ⟨_, _, e⟩ := capture_cases s t d v <;> rw [e] <;> exact ⟨rfl, rfl, rfl⟩

/-- R363: a busy state accepts no write of a motor configuration register. -/
theorem not_isMotorConfig_of_writeRefusal {r : Reg} {x : Data} {s : State} (hw : writeRefusal r x s = none)
    (hb : s.mcState.isBusy = true) : r.isMotorConfig = false := by
  obtain ⟨_, hc, _⟩ := writeRefusal_eq_none.mp hw
  cases hm : r.isMotorConfig with
  | false => rfl
  | true => exact absurd (hc hm) (by simp [hb])

/-- The operations that write a configuration register or a setpoint memory refuse while busy (R363, R370, R371). -/
theorem Effect.sameProgram {i : Instr} {s t : State} (he : Effect i s t) (hb : s.mcState.isBusy = true) :
    s.SameProgram t := by
  cases he with
  | write r x hw =>
    exact ⟨storeReg_setup_of_not (not_isMotorConfig_of_writeRefusal hw hb) x s, by simp, by simp⟩
  | clear m hi => simp [hb] at hi
  | push m x hi hl => simp [hb] at hi
  | _ => exact .refl s

theorem HomingStep.sameProgram {s t : State} (hs : HomingStep s t) : s.SameProgram t := by
  cases hs <;> exact .refl s

theorem RunStep.sameProgram {s t : State} (hs : RunStep s t) : s.SameProgram t := by
  cases hs with
  | sample hp d v => exact .capture s (runMs s) d v
  | visSample hp d v => exact .capture s (runMs s) d v
  | commit hp => exact ⟨by simp, by simp, by simp⟩
  | visCommit hp => exact ⟨by simp, by simp, by simp⟩
  | _ => exact .refl s

theorem TurnEffect.sameProgram {x : Turn} {s t : State} (he : TurnEffect x s t) (hb : s.mcState.isBusy = true)
    (hx : x ≠ .reset) : s.SameProgram t := by
  cases he with
  | reset => exact absurd rfl hx
  | operation i hi he => exact he.sameProgram hb
  | illegalEvent => exact .refl s
  | illegalCommand => exact .refl s
  | idle => exact .refl s
  | homing hm hs => exact hs.sameProgram
  | run hm hs => exact hs.sameProgram

/-- Settles O57: of a busy state's turns only reset changes the configuration or the setpoints. -/
theorem configurationFrozenWhileBusy : Obligations.ConfigurationFrozenWhileBusy := by
  intro s t hstep hb hx
  obtain ⟨hsetup, hvel, hdist⟩ := (step_effect hstep).sameProgram (by rwa [State.presented_mcState]) hx
  rw [State.presented_mem] at hvel hdist
  exact ⟨hsetup.trans s.presented_setup, hvel, hdist⟩

end Sys2Proof.Machine
end

section
/-!
PROOFS. The decoder and the encoder as inverses of each other (30_encoding.md R131 to R143): the statements DecodeOfEncode
(O1), EncodeOfDecode (O2), DecodesWorkedWords (O3) and ReservedOpcodesIllegal (O4).
-/

namespace Sys2Proof

/-- The operation of an instruction: the row of R135 it is written in. -/
def Instr.opcode : Instr → Opcode
  | .encEdge _ _ _ => .encEdge
  | .idxEdge _ _ => .idxEdge
  | .limEdge _ _ => .limEdge
  | .encReset => .encReset
  | .getCount => .getCount
  | .getCps => .getCps
  | .histRd _ _ => .histRd
  | .regRd _ => .regRd
  | .regWr _ _ => .regWr
  | .spClr _ => .spClr
  | .spPush _ _ => .spPush
  | .spRd _ _ => .spRd
  | .trRd _ _ => .trRd
  | .mcInit => .mcInit
  | .latchAct => .latchAct
  | .latchDeact => .latchDeact
  | .latchReset => .latchReset
  | .home => .home
  | .runOl _ => .runOl
  | .runPdff _ => .runPdff
  | .runPdffVis _ => .runPdffVis
  | .runVis _ => .runVis
  | .runPoint _ => .runPoint
  | .stop => .stop
  | .clrDone => .clrDone

theorem Instr.port_opcode (i : Instr) : i.opcode.port = i.port := by cases i <;> rfl

/-! ## The fields of an encoded instruction (R131, R132) -/

@[simp] theorem opcOf_encode (i : Instr) : opcOf (encode i) = i.opcode.byte := by
  cases i <;> exact opcOf_packWord ..

@[simp] theorem rsvOf_encode (i : Instr) : rsvOf (encode i) = 0#15 := by
  cases i <;> exact rsvOf_packWord ..

@[simp] theorem Format.unusedZero_packWord (f : Format) (o s : BitVec 8) (l : Bool) (h k : BitVec 32) :
    f.unusedZero (packWord o s l h k) =
      ((f.usesSel || s == 0#8) && (f.usesLvl || !l) && (f.usesHi || h == 0#32) && (f.usesLo || k == 0#32)) := by
  simp [Format.unusedZero]

theorem unusedZero_encode (i : Instr) : i.opcode.format.unusedZero (encode i) = true := by
  cases i <;> exact Format.unusedZero_packWord ..

theorem dataOf_packWord (o s : BitVec 8) (l : Bool) (x : Data) :
    dataOf (packWord o s l (x.extractLsb' 32 32) (x.extractLsb' 0 32)) = x := by
  rw [dataOf_eq, hiOf_packWord, loOf_packWord, halves_append]

/-- An index below the bound loses nothing in `DATA[31:0]` (R136). -/
theorem toNat_ofNat_index {i : Nat} (h : i < indexBound) : (BitVec.ofNat 32 i).toNat = i :=
  (BitVec.toNat_ofNat i 32).trans (Nat.mod_eq_of_lt h)

/-- The operands are read back from the fields they were written to (R136). -/
theorem operands_encode {i : Instr} (h : i.wf = true) : operands i.opcode (encode i) = some i := by
  cases i with
  | encReset | getCount | getCps | mcInit | latchAct | latchDeact | latchReset | home | stop | clrDone => rfl
  | encEdge | idxEdge | limEdge | regRd | spClr | runOl | runPdff | runPdffVis | runVis | runPoint =>
    simp [Instr.opcode, operands, encode]
  | regWr | spPush => simp [Instr.opcode, operands, encode, dataOf_packWord]
  | histRd f i | spRd m i | trRd f i =>
    simp [Instr.opcode, operands, encode, toNat_ofNat_index (of_decide_eq_true h)]

/-- Settles O1: the word of an instruction passes the decoder's tests for the instruction's operation. -/
theorem decodeOfEncode : Obligations.DecodeOfEncode := fun i h =>
  decode_of_tests (opcOf_encode i).symm i.port_opcode (rsvOf_encode i) (unusedZero_encode i) (operands_encode h)

/-! ## The word of a decoded instruction (R132, R140, R141) -/

/-- The word with opcode `o` and, of the other fields of `w`, those the format uses. -/
def Format.usedFields (f : Format) (o : BitVec 8) (w : OpWord) : OpWord :=
  packWord o (if f.usesSel then selOf w else 0#8) (if f.usesLvl then lvlOf w else false)
    (if f.usesHi then hiOf w else 0#32) (if f.usesLo then loOf w else 0#32)

theorem ite_eq_left_of_or {α : Type} {b : Bool} {x z : α} (h : b = true ∨ x = z) : (if b then x else z) = x := by
  obtain rfl | rfl := h
  · rfl
  · exact ite_self x

/-- R132: a word whose reserved and unused fields are zero is given by its opcode and the fields its format uses. -/
theorem Format.usedFields_eq {f : Format} {w : OpWord} (hr : rsvOf w = 0#15) (hu : f.unusedZero w = true) :
    f.usedFields (opcOf w) w = w := by
  simp only [Format.unusedZero, Bool.and_eq_true, Bool.or_eq_true, beq_iff_eq, Bool.not_eq_true'] at hu
  obtain ⟨⟨⟨hsel, hlvl⟩, hhi⟩, hlo⟩ := hu
  rw [Format.usedFields, ite_eq_left_of_or hsel, ite_eq_left_of_or hlvl, ite_eq_left_of_or hhi,
    ite_eq_left_of_or hlo, packWord_fields w hr]

theorem hi_dataOf (w : OpWord) : (dataOf w).extractLsb' 32 32 = hiOf w := by
  simp [dataOf, hiOf]

theorem lo_dataOf (w : OpWord) : (dataOf w).extractLsb' 0 32 = loOf w := by
  simp [dataOf, loOf]

/-- What `operands` assembles is well formed, has the operation it was asked for, and is encoded by the fields that the
operation's format uses. -/
theorem operands_eq_some {o : Opcode} {w : OpWord} {i : Instr} (h : operands o w = some i) :
    i.opcode = o ∧ i.wf = true ∧ encode i = o.format.usedFields o.byte w := by
  cases o with
  | encReset | getCount | getCps | mcInit | latchAct | latchDeact | latchReset | home | stop | clrDone | regRd
  | runOl | runPdff | runPdffVis | runVis | runPoint =>
    cases h
    exact ⟨rfl, rfl, rfl⟩
  | regWr =>
    cases h
    exact ⟨rfl, rfl, by rw [encode, hi_dataOf, lo_dataOf]; rfl⟩
  | idxEdge =>
    obtain ⟨hs, hi⟩ := Option.ite_none_right_eq_some.mp h
    cases hi
    exact ⟨rfl, rfl, by rw [encode, ← hs]; rfl⟩
  | encEdge =>
    obtain ⟨p, hp, rfl⟩ := Option.map_eq_some_iff.mp h
    exact ⟨rfl, rfl, by rw [encode, QPin.sel_of_ofSel hp]; rfl⟩
  | limEdge =>
    obtain ⟨p, hp, rfl⟩ := Option.map_eq_some_iff.mp h
    exact ⟨rfl, rfl, by rw [encode, LimPin.sel_of_ofSel hp]; rfl⟩
  | spClr =>
    obtain ⟨m, hm, rfl⟩ := Option.map_eq_some_iff.mp h
    exact ⟨rfl, rfl, by rw [encode, SpMem.sel_of_ofSel hm]; rfl⟩
  | spPush =>
    obtain ⟨m, hm, rfl⟩ := Option.map_eq_some_iff.mp h
    exact ⟨rfl, rfl, by rw [encode, SpMem.sel_of_ofSel hm, hi_dataOf, lo_dataOf]; rfl⟩
  | histRd =>
    obtain ⟨f, hf, rfl⟩ := Option.map_eq_some_iff.mp h
    exact ⟨rfl, decide_eq_true (loOf w).isLt,
      by rw [encode, HistField.sel_of_ofSel hf, BitVec.ofNat_toNat, BitVec.setWidth_eq]; rfl⟩
  | spRd =>
    obtain ⟨m, hm, rfl⟩ := Option.map_eq_some_iff.mp h
    exact ⟨rfl, decide_eq_true (loOf w).isLt,
      by rw [encode, SpMem.sel_of_ofSel hm, BitVec.ofNat_toNat, BitVec.setWidth_eq]; rfl⟩
  | trRd =>
    obtain ⟨f, hf, rfl⟩ := Option.map_eq_some_iff.mp h
    exact ⟨rfl, decide_eq_true (loOf w).isLt,
      by rw [encode, TraceField.sel_of_ofSel hf, BitVec.ofNat_toNat, BitVec.setWidth_eq]; rfl⟩

/-- Settles O2: the tests of the decoder leave no field of the word that the instruction does not determine. -/
theorem encodeOfDecode : Obligations.EncodeOfDecode := by
  intro p w i h
  obtain ⟨o, hbyte, hport, hrsv, hunused, hops⟩ := decode_ok h
  obtain ⟨rfl, hwf, henc⟩ := operands_eq_some hops
  refine ⟨hwf, i.port_opcode ▸ hport, ?_⟩
  rw [henc, hbyte, Format.usedFields_eq hrsv hunused]

/-! ## Worked words (R148) -/

/-- The 16 bits after `SEL` are `RSV` and `LVL`. -/
theorem extract_rsv_lvl (w : OpWord) : w.extractLsb' 64 16 = rsvOf w ++ BitVec.ofBool (lvlOf w) := by
  unfold rsvOf lvlOf
  ext i hi
  simp
  grind

/-- The K_P of R148's fifth word is two and a half. -/
theorem val_worked_kP : Machine.val 0x280000000#64 = 5 / 2 := by
  have h : (0x280000000#64).toInt = 10737418240 := by decide
  norm_num [Machine.val, h]

/-- Settles O3: the words are closed terms of the decoder; of a legal word, `RSV` is zero. -/
theorem decodesWorkedWords : Obligations.DecodesWorkedWords := by
  refine ⟨by decide, by decide, by decide, by decide, ?_, by decide, by decide, ?_⟩
  · rw [← val_worked_kP, Machine.qImage_val]
    decide
  · intro p w i h
    obtain ⟨_, _, _, hrsv, _⟩ := decode_ok h
    rw [extract_rsv_lvl, hrsv]
    cases lvlOf w <;> rfl

/-! ## Reserved opcodes (R142) -/

/-- The values of `OPC` that R142 reserves. -/
def ReservedOpc (b : Nat) : Prop :=
  b = 0x00 ∨ (0x04 ≤ b ∧ b ≤ 0x0F) ∨ b = 0x13 ∨ (0x15 ≤ b ∧ b ≤ 0x1F) ∨ (0x22 ≤ b ∧ b ≤ 0x27) ∨ b = 0x2B ∨
    (0x2D ≤ b ∧ b ≤ 0x2F) ∨ (0x35 ≤ b ∧ b ≤ 0x37) ∨ b = 0x3D ∨ (0x40 ≤ b ∧ b ≤ 0xFF)

/-- R135 assigns no value that R142 reserves. -/
theorem Opcode.byte_not_reserved (o : Opcode) : ¬ ReservedOpc o.byte.toNat := by
  cases o <;> simp [ReservedOpc, Opcode.byte]

theorem decode_of_reserved (p : Port) {w : OpWord} (h : ReservedOpc (opcOf w).toNat) :
    decode p w = .illegal .reservedOpcode := by
  have hnone : Opcode.ofByte (opcOf w) = none :=
    Opcode.ofByte_eq_none fun o ho => o.byte_not_reserved (ho ▸ h)
  rw [decode, hnone]

/-- Settles O4: no operation has a reserved opcode, and that of the all-zero word is 0x00. -/
theorem reservedOpcodesIllegal : Obligations.ReservedOpcodesIllegal :=
  ⟨fun p => decode_of_reserved p (.inl rfl), fun p _ _ hb h => decode_of_reserved p (hb ▸ h)⟩

end Sys2Proof
end

section
/-!
PROOFS. A turn that brings an illegal word (O7), a quadrature cycle (O17) and what a refused command leaves (O54):
30_encoding.md R140, R141, R146, 60_exceptions.md R400.
-/

namespace Sys2Proof.Machine

/-! ## Turns that bring an illegal word (R140, R141) -/

theorem takeTurn_command_of_illegal {w : OpWord} {r : Reject} (h : decode .cmd w = .illegal r) (s : State) :
    takeTurn (.command w) s = illegalCommand s := by
  simp [takeTurn, h]

theorem takeTurn_event_of_illegal {w : OpWord} {r : Reject} (h : decode .evt w = .illegal r) (s : State) :
    takeTurn (.event w) s = illegalEvent s := by
  simp [takeTurn, h]

/-- Settles O7: the turn of an illegal word is `illegalCommand` or `illegalEvent`, by its port. -/
theorem stepRejectsIllegalWords : Obligations.StepRejectsIllegalWords := by
  refine fun s w l rest r => ⟨fun hs hd => ?_, fun hs hd => ?_⟩
  · rw [step, nextStimulus_cons s _ _ hs, State.presented_cons s _ _ hs, takeTurn_command_of_illegal hd]
    rfl
  · rw [step, nextStimulus_cons s _ _ hs, State.presented_cons s _ _ hs, takeTurn_event_of_illegal hd]
    rfl

/-! ## Quadrature cycles (R146) -/

@[simp] theorem acceptEdge_encEn (p : QPin) (l : Bool) (k : Tick) (s : State) :
    (acceptEdge p l k s).enc.encEn = s.enc.encEn := by
  rw [acceptEdge_enc]

@[simp] theorem acceptEdge_lastPin (p : QPin) (l : Bool) (k : Tick) (s : State) :
    (acceptEdge p l k s).enc.lastPin = pinKey p := by
  rw [acceptEdge_enc]

@[simp] theorem pinKey_inj {p q : QPin} : pinKey p = pinKey q ↔ p = q := by
  cases p <;> cases q <;> decide

/-- R161, R165: an edge of an enabled encoder on the pin that did not come last is accepted. -/
theorem execAll_encEdge_cons {p : QPin} {s : State} (he : s.enc.encEn = true) (hp : s.enc.lastPin ≠ pinKey p)
    (l : Bool) (k : Tick) (is : List Instr) :
    execAll (.encEdge p l k :: is) s = execAll is (acceptEdge p l k s) := by
  simp [execAll, exec, execEncEdge, he, hp]

/-- Four accepted edges on B, A, B, A with the given levels, one microsecond apart. -/
def edgeCycle (b₁ a₁ b₂ a₂ : Bool) (k : Tick) (s : State) : State :=
  acceptEdge .a a₂ (k + 3#32) (acceptEdge .b b₂ (k + 2#32) (acceptEdge .a a₁ (k + 1#32) (acceptEdge .b b₁ k s)))

/-- From a last pin that is not B, edges that alternate from B on are all accepted (R161). -/
theorem execAll_edgeCycle {s : State} (he : s.enc.encEn = true) (hp : s.enc.lastPin ≠ .b) (b₁ a₁ b₂ a₂ : Bool)
    (k : Tick) :
    execAll [.encEdge .b b₁ k, .encEdge .a a₁ (k + 1#32), .encEdge .b b₂ (k + 2#32), .encEdge .a a₂ (k + 3#32)] s
      = .next (edgeCycle b₁ a₁ b₂ a₂ k s) := by
  rw [execAll_encEdge_cons (p := .b) he hp, execAll_encEdge_cons, execAll_encEdge_cons, execAll_encEdge_cons]
  · rfl
  all_goals simp [he]

/-- R163: each edge counts by its own level and the level its predecessor left. -/
theorem edgeCycle_count (b₁ a₁ b₂ a₂ : Bool) (k : Tick) (s : State) :
    (edgeCycle b₁ a₁ b₂ a₂ k s).enc.count =
      edgeCount .a a₂ b₂ (edgeCount .b b₂ a₁ (edgeCount .a a₁ b₁ (edgeCount .b b₁ s.enc.levA s.enc.count))) := rfl

/-- A cycle leaves the levels and the pin of its last edges, and touches nothing but the encoder and the history. -/
theorem edgeCycle_frame (b₁ a₁ b₂ a₂ : Bool) (k : Tick) (s : State) :
    edgeCycle b₁ a₁ b₂ a₂ k s =
      { s with enc := { s.enc with count := (edgeCycle b₁ a₁ b₂ a₂ k s).enc.count, lastPin := .a, levA := a₂,
                                   levB := b₂ },
               mem := { s.mem with hist := (edgeCycle b₁ a₁ b₂ a₂ k s).mem.hist } } := rfl

/-- R146: CYC_UP counts at the rising edge of A, where B is high; the first edge does not count if A was low. -/
theorem edgeCycle_up_count {s : State} (ha : s.enc.levA = false) (k : Tick) :
    (edgeCycle true true false false k s).enc.count = s.enc.count + 1#32 := by
  simp [edgeCycle_count, ha, edgeCount, wrapAdd_one]

/-- R146: CYC_DN counts at the rising edge of B, where A is high. -/
theorem edgeCycle_down_count (k : Tick) (s : State) :
    (edgeCycle false true true false k s).enc.count = s.enc.count - 1#32 := by
  simp [edgeCycle_count, edgeCount, wrapAdd_neg_one]

/-- Settles O17: both pseudo-operations are cycles of four accepted edges. -/
theorem quadratureCycleCounts : Obligations.QuadratureCycleCounts := fun k s he hp =>
  ⟨fun ha => ⟨edgeCycle true true false false k s, execAll_edgeCycle he hp .., edgeCycle_up_count ha k,
      edgeCycle_frame ..⟩,
    edgeCycle false true true false k s, execAll_edgeCycle he hp .., edgeCycle_down_count k s, edgeCycle_frame ..⟩

/-! ## Refused commands (R400) -/

/-- The two forms of an answer to a command in state `s`: OK, whatever it has done, or another status with no data and
the state as it was. -/
inductive Answers (s : State) : Result → Prop
  | accepted (d : Data) (t : State) : Answers s (respond .ok d t)
  | refused (st : Status) : Answers s (respond st 0#64 s)

/-- A test before an answer that refuses where it fails. -/
theorem Answers.guard {s : State} {r : Result} {c : Prop} [Decidable c] (st : Status) (h : Answers s r) :
    Answers s (if c then respond st 0#64 s else r) := by
  split
  · exact .refused st
  · exact h

theorem execHistRd_answers (f : HistField) (i : Nat) (s : State) : Answers s (execHistRd f i s) := by
  unfold execHistRd
  split
  · exact .refused _
  · cases f <;> exact .accepted ..

theorem execRegRd_answers (n : BitVec 8) (s : State) : Answers s (execRegRd n s) := by
  unfold execRegRd
  split
  · exact .refused _
  · exact .accepted ..

theorem execRegWr_answers (n : BitVec 8) (x : Data) (s : State) : Answers s (execRegWr n x s) := by
  unfold execRegWr
  split
  · exact .refused _
  split
  · exact .refused _
  · exact .accepted ..

theorem execSpRd_answers (m : SpMem) (i : Nat) (s : State) : Answers s (execSpRd m i s) := by
  unfold execSpRd
  split
  · exact .refused _
  · exact .accepted ..

theorem execTrRd_answers (f : TraceField) (i : Nat) (s : State) : Answers s (execTrRd f i s) := by
  unfold execTrRd
  split
  · exact .refused _
  · cases f <;> exact .accepted ..

theorem runAccept_answers (mode : McState) (k : Tick) (nv nd nz : Bool) (s : State) :
    Answers s (runAccept mode k nv nd nz s) := by
  unfold runAccept
  split
  · exact .refused _
  · exact .accepted ..

/-- Every command answers in one of the two forms. -/
theorem exec_answers {i : Instr} (hi : i.port = .cmd) (s : State) : Answers s (exec i s) :=
  match i, hi with
  | .encReset, _ | .getCount, _ | .clrDone, _ => .accepted ..
  | .getCps, _ | .spClr _, _ | .mcInit, _ | .latchAct, _ | .latchDeact, _ | .latchReset, _ | .home, _ | .stop, _ =>
    .guard _ (.accepted ..)
  | .spPush _ _, _ => .guard _ (.guard _ (.accepted ..))
  | .histRd f k, _ => execHistRd_answers f k s
  | .regRd n, _ => execRegRd_answers n s
  | .regWr n x, _ => execRegWr_answers n x s
  | .spRd m k, _ => execSpRd_answers m k s
  | .trRd f k, _ => execTrRd_answers f k s
  | .runOl _, _ | .runPdff _, _ | .runPdffVis _, _ | .runVis _, _ | .runPoint _, _ => runAccept_answers ..

/-- An answer that is not OK is a refusal. -/
theorem Answers.eq_withRsp {s t : State} {res : Result} {r : Response} (h : Answers s res) (ht : res = .next t)
    (hr : t.rsp = some r) (hok : r.status ≠ .ok) : r.data = 0#64 ∧ t = s.withRsp r.status 0#64 := by
  cases h with
  | accepted d u =>
    cases ht
    cases hr
    exact absurd rfl hok
  | refused st =>
    cases ht
    cases hr
    exact ⟨rfl, rfl⟩

/-- Settles O54: each status has its row in R400's table; a command that does not answer OK has refused, and a refusal
only responds. -/
theorem failedCommandsChangeNothing : Obligations.FailedCommandsChangeNothing := by
  refine ⟨fun st => by cases st <;> decide, fun i s t r hi ht hr hok _ => ?_⟩
  obtain ⟨hdata, hstate⟩ := (exec_answers hi s).eq_withRsp ht hr hok
  refine ⟨hdata, ?_⟩
  rw [hstate, State.withRsp, ← hdata]

end Sys2Proof.Machine
end

section
/-!
PROOFS. The operations of the encoder unit (O9 to O13) and the velocity estimator (O14 to O16): 40_encoder.md R160 to R174.
-/

namespace Sys2Proof.Machine

/-! ## Lagrange's identity (R174)

Over a snapshot of `N` samples, `N·Σfg − Σf·Σg` is a sum over pairs of samples that looks at differences only. The
estimator's numerator and denominator (R172) are both of this form, and each part of R174 is an
induction on the sum over pairs. -/

/-- `x`, the tick of a sample as an unsigned integer (R172). -/
def HistSample.x (a : HistSample) : ℤ := (a.tick.toNat : ℤ)

/-- `y`, the count of a sample as a signed integer (R172). -/
def HistSample.y (a : HistSample) : ℤ := a.count.toInt

/-- `Σ (f aᵢ − f aⱼ)·(g aᵢ − g aⱼ)` over the pairs `i < j` of a history. -/
def pairSum (f g : HistSample → ℤ) : List HistSample → ℤ
  | [] => 0
  | a :: h => (h.map fun b => (f a - f b) * (g a - g b)).sum + pairSum f g h

theorem HistSample.x_eq_x_iff {a b : HistSample} : a.x = b.x ↔ a.tick = b.tick := by
  rw [HistSample.x, HistSample.x, Nat.cast_inj, BitVec.toNat_inj]

theorem sum_map_sub_mul_sub (f g : HistSample → ℤ) (c d : ℤ) (h : List HistSample) :
    (h.map fun b => (c - f b) * (d - g b)).sum =
      h.length * (c * d) - c * (h.map g).sum - d * (h.map f).sum + (h.map fun b => f b * g b).sum := by
  induction h with
  | nil => simp
  | cons b h ih =>
    simp only [List.map_cons, List.sum_cons, List.length_cons, ih]
    push_cast
    ring

theorem length_mul_sum_sub_eq_pairSum (f g : HistSample → ℤ) (h : List HistSample) :
    h.length * (h.map fun a => f a * g a).sum - (h.map f).sum * (h.map g).sum = pairSum f g h := by
  induction h with
  | nil => simp [pairSum]
  | cons a h ih =>
    rw [pairSum, sum_map_sub_mul_sub, ← ih]
    simp only [List.map_cons, List.sum_cons, List.length_cons]
    push_cast
    ring

theorem cpsDen_eq_pairSum (h : List HistSample) : cpsDen h.length h = pairSum HistSample.x HistSample.x h :=
  length_mul_sum_sub_eq_pairSum ..

theorem cpsNum_eq_pairSum (h : List HistSample) : cpsNum h.length h = pairSum HistSample.x HistSample.y h :=
  length_mul_sum_sub_eq_pairSum ..

/-! ## The denominator (R174 a) -/

theorem sum_map_mul_self_nonneg (d : HistSample → ℤ) (h : List HistSample) : 0 ≤ (h.map fun b => d b * d b).sum :=
  List.sum_nonneg (List.forall_mem_map.2 fun b _ => mul_self_nonneg (d b))

theorem sum_map_mul_self_eq_zero {d : HistSample → ℤ} {h : List HistSample} :
    (h.map fun b => d b * d b).sum = 0 ↔ ∀ b ∈ h, d b = 0 := by
  induction h with
  | nil => simp
  | cons b h ih =>
    rw [List.map_cons, List.sum_cons,
      add_eq_zero_iff_of_nonneg (mul_self_nonneg _) (sum_map_mul_self_nonneg d h), mul_self_eq_zero, ih,
      List.forall_mem_cons]

theorem pairSum_self_nonneg (f : HistSample → ℤ) (h : List HistSample) : 0 ≤ pairSum f f h := by
  induction h with
  | nil => exact le_rfl
  | cons a h ih => exact add_nonneg (sum_map_mul_self_nonneg (fun b => f a - f b) h) ih

/-- A sum of squares of differences vanishes only where there is no difference. -/
theorem pairSum_self_eq_zero {f : HistSample → ℤ} {h : List HistSample} :
    pairSum f f h = 0 ↔ ∀ a ∈ h, ∀ b ∈ h, f a = f b := by
  induction h with
  | nil => simp [pairSum]
  | cons a h ih =>
    have split_sum : pairSum f f (a :: h) = 0 ↔ (∀ b ∈ h, f a = f b) ∧ ∀ b ∈ h, ∀ c ∈ h, f b = f c := by
      rw [pairSum, add_eq_zero_iff_of_nonneg (sum_map_mul_self_nonneg (fun b => f a - f b) h)
        (pairSum_self_nonneg f h), sum_map_mul_self_eq_zero (d := fun b => f a - f b), ih]
      simp only [sub_eq_zero]
    rw [split_sum]
    grind

theorem cpsDen_eq_zero_iff {h : List HistSample} :
    cpsDen h.length h = 0 ↔ ∀ a ∈ h, ∀ b ∈ h, a.tick = b.tick := by
  simp only [cpsDen_eq_pairSum, pairSum_self_eq_zero, HistSample.x_eq_x_iff]

/-- Settles O14: the denominator is a sum of squares, by Lagrange's identity. -/
theorem estimatorDenominator : Obligations.EstimatorDenominator := fun h =>
  ⟨cpsDen_eq_pairSum h ▸ pairSum_self_nonneg .., cpsDen_eq_zero_iff⟩

/-! ## The two answers of the estimator (R172) -/

/-- R172: a short snapshot and one with no two different ticks are degenerate. -/
theorem cpsValue_of_degenerate {n : ℕ} {h : List HistSample}
    (hd : h.length ≠ n ∨ ∀ a ∈ h, ∀ b ∈ h, a.tick = b.tick) : cpsValue n h = (0, true) := by
  obtain ⟨_, hv⟩ | ⟨rfl, hden, _⟩ := cpsValue_cases n h
  · exact hv
  · exact absurd (hd.neg_resolve_left rfl) (cpsDen_eq_zero_iff.not.1 hden)

theorem cpsDen_ne_zero {h : List HistSample} (ht : ∃ a ∈ h, ∃ b ∈ h, a.tick ≠ b.tick) : cpsDen h.length h ≠ 0 := by
  rw [Ne, cpsDen_eq_zero_iff]
  push Not
  exact ht

/-- R172: a full snapshot with two different ticks has the slope times 1000000. -/
theorem cpsValue_of_tick_ne {h : List HistSample} (ht : ∃ a ∈ h, ∃ b ∈ h, a.tick ≠ b.tick) :
    cpsValue h.length h = ((cpsNum h.length h : ℚ) / (cpsDen h.length h : ℚ) * 1000000, false) := by
  obtain ⟨hd, _⟩ | ⟨_, _, hv⟩ := cpsValue_cases h.length h
  · exact absurd (hd.neg_resolve_left rfl) (cpsDen_ne_zero ht)
  · rw [hv, mul_div_assoc, mul_comm]

/-! ## A linear history (R174 b) -/

/-- Where `g` has slope `a` over `f`, each product of differences is `a` times a square. -/
theorem pairSum_of_linear {f g : HistSample → ℤ} {h : List HistSample} {a b : ℚ}
    (hl : ∀ x ∈ h, (g x : ℚ) = a * f x + b) : (pairSum f g h : ℚ) = a * pairSum f f h := by
  induction h with
  | nil => simp [pairSum]
  | cons x h ih =>
    obtain ⟨hx, hh⟩ := List.forall_mem_cons.1 hl
    have products : ∀ y ∈ h, (((f x - f y) * (g x - g y) : ℤ) : ℚ) = a * ((f x - f y) * (f x - f y) : ℤ) := by
      intro y hy
      push_cast
      rw [hx, hh y hy]
      ring
    simp only [pairSum, Int.cast_add, Int.cast_list_sum, List.map_map, mul_add, ih hh, ← List.sum_map_mul_left]
    exact congrArg (·.sum + _) (List.map_congr_left products)

/-- Settles O15: on a line the numerator is the slope times the denominator, which is not zero. -/
theorem estimatorExactLine : Obligations.EstimatorExactLine := by
  intro h a b ht hl
  have num_eq : (cpsNum h.length h : ℚ) = a * cpsDen h.length h := by
    rw [cpsNum_eq_pairSum, cpsDen_eq_pairSum]
    exact pairSum_of_linear hl
  rw [cpsValue_of_tick_ne ht, num_eq, mul_div_cancel_right₀ _ (Int.cast_ne_zero.2 (cpsDen_ne_zero ht))]

/-! ## A shifted history (R174 c) -/

/-- A constant added to each value of `f` and one added to each value of `g` cancel in the differences. -/
theorem pairSum_of_shift {f g : HistSample → ℤ} {c d : ℤ} {h k : List HistSample}
    (hs : List.Forall₂ (fun a b => f b = f a + c ∧ g b = g a + d) h k) : pairSum f g k = pairSum f g h := by
  induction hs with
  | nil => rfl
  | @cons a b h k hab hs ih =>
    have products : (k.map fun y => (f b - f y) * (g b - g y)) = h.map fun x => (f a - f x) * (g a - g x) := by
      rw [← List.forall₂_eq_eq_eq, List.forall₂_map_left_iff, List.forall₂_map_right_iff]
      refine hs.flip.imp fun y x hxy => ?_
      rw [hab.1, hab.2, hxy.1, hxy.2, add_sub_add_right_eq_sub, add_sub_add_right_eq_sub]
    rw [pairSum, pairSum, products, ih]

/-- Settles O16: neither the numerator nor the denominator sees the shifts. -/
theorem estimatorShiftInvariant : Obligations.EstimatorShiftInvariant := by
  intro h g dx dy hs
  have hlen : h.length = g.length := hs.length_eq
  have den_eq : cpsDen h.length g = cpsDen h.length h := by
    rw [cpsDen_eq_pairSum h, hlen, cpsDen_eq_pairSum g]
    exact pairSum_of_shift (hs.imp fun _ _ hab => ⟨hab.1, hab.1⟩)
  have num_eq : cpsNum h.length g = cpsNum h.length h := by
    rw [cpsNum_eq_pairSum h, hlen, cpsNum_eq_pairSum g]
    exact pairSum_of_shift hs
  rw [cpsValue, cpsValue, den_eq, num_eq, hlen]

/-! ## Edges (R160 to R168) -/

theorem exec_encEdge_of_ignored {p : QPin} {s : State} (hi : s.enc.encEn = false ∨ s.enc.lastPin = pinKey p)
    (l : Bool) (k : Tick) : exec (.encEdge p l k) s = .next s := by
  obtain he | hp := hi
  · simp [exec, execEncEdge, drop, he]
  · simp [exec, execEncEdge, drop, hp]

theorem exec_encEdge_of_accepted {p : QPin} {s : State} (he : s.enc.encEn = true) (hp : s.enc.lastPin ≠ pinKey p)
    (l : Bool) (k : Tick) : exec (.encEdge p l k) s = .next (acceptEdge p l k s) := by
  simp [exec, execEncEdge, he, hp]

/-- An accepted edge changes the encoder and the history alone. -/
theorem acceptEdge_frame (p : QPin) (l : Bool) (k : Tick) (s : State) :
    acceptEdge p l k s = { s with enc := (acceptEdge p l k s).enc, mem := (acceptEdge p l k s).mem } := rfl

/-- R163: the direction rule, with the other pin's level read from the state. -/
theorem acceptEdge_count (p : QPin) (l : Bool) (k : Tick) (s : State) :
    (acceptEdge p l k s).enc.count =
      if l = true ∧ p = .a ∧ s.enc.levB = true then s.enc.count + 1#32
      else if l = true ∧ p = .b ∧ s.enc.levA = true then s.enc.count - 1#32 else s.enc.count := by
  rw [acceptEdge_enc]
  cases p with
  | a => simp [edgeCount, wrapAdd_one]
  | b => simp [edgeCount, wrapAdd_neg_one]

/-- Settles O9: an edge is dropped or accepted, and `acceptEdge` is described register by register. -/
theorem encEdgeIgnoredOrAccepted : Obligations.EncEdgeIgnoredOrAccepted := by
  intro p l k s c
  refine ⟨fun hi => exec_encEdge_of_ignored hi l k, fun he hp hc => ?_⟩
  rw [← acceptEdge_count p l k s] at hc
  rw [exec_encEdge_of_accepted he hp, acceptEdge_frame, acceptEdge_mem, ← hc, histAppend, List.drop_one, hc,
    acceptEdge_enc]

/-- Settles O10: the three tests of R168 in their order. -/
theorem idxEdgeLogsAndZeroes : Obligations.IdxEdgeLogsAndZeroes := by
  refine fun l k s => ⟨fun he hl hr => ?_, fun hd => ?_⟩
  · simp [exec, execIdxEdge, he, hl, hr]
  · obtain he | hl | hr := hd
    · simp [exec, execIdxEdge, drop, he]
    · simp [exec, execIdxEdge, drop, hl]
    · simp [exec, execIdxEdge, drop, hr]

/-! ## Answers of the encoder unit (R169 to R173) -/

/-- Settles O11: both commands answer in every state, and `signExtend` is the image of the signed value. -/
theorem encResetAndGetCount : Obligations.EncResetAndGetCount := fun _ => ⟨rfl, rfl⟩

/-- Settles O12: GET_CPS answers the pair of the estimator, degenerate or not. -/
theorem getCpsAnswers : Obligations.GetCpsAnswers := by
  refine fun s => ⟨fun hd => ?_, fun hn ht sx sy sxy sxx hsx hsy hsxy hsxx => ?_⟩
  · rw [exec, execGetCps, cpsValue_of_degenerate hd]
    rfl
  · subst hsx hsy hsxy hsxx
    rw [exec, execGetCps, ← hn, cpsValue_of_tick_ne ht]
    rfl

/-- Settles O13: the two cases of the lookup. -/
theorem histRdAnswers : Obligations.HistRdAnswers := by
  refine fun i s => ⟨fun x hx => ⟨?_, ?_⟩, fun hi f => ?_⟩
  · simp [exec, execHistRd, hx, respond, State.withRsp]
  · simp [exec, execHistRd, hx, respond, State.withRsp, BitVec.signExtend]
  · simp [exec, execHistRd, List.getElem?_eq_none hi, respond, State.withRsp]

end Sys2Proof.Machine
end

section
/-!
PROOFS. The Motor Controller's commands (O21 to O26) and the transitions of `MC_STATE` (O55): 41_motor_commands.md R200
to R221.
-/

namespace Sys2Proof.Machine

/-! ## The idle-like states (R200) -/

theorem McState.isIls_iff_mem {m : McState} :
    m.isIls = true ↔ m ∈ [McState.idle, .homed, .homeFailRec, .homeFailFatal] := by
  cases m <;> decide

theorem McState.isIls_eq_false_iff_not_mem {m : McState} :
    m.isIls = false ↔ m ∉ [McState.idle, .homed, .homeFailRec, .homeFailFatal] := by
  rw [← Bool.not_eq_true, isIls_iff_mem]

theorem McState.isRun_iff_mem {m : McState} :
    m.isRun = true ↔ m ∈ [McState.runOl, .runPdff, .runPdffVis, .runVis, .runPoint] := by
  cases m <;> decide

/-! ## The sequencer's part in the transitions

A homing step leaves HOMING by one of the three ends of R244, R241 or R249, and R253. A step of a run leaves it by
RunExit, and never with the cause STOPPED, which is STOP's own (R303). A proof of `McRow` names its row by its place in
R200's table: as many `.inr` as there are rows above it. -/

/-- The last settle check of R253 is the test of H_SETTLE2. -/
theorem lastSettlePasses_of_seekInside {s : State} (hp : s.phase = .hSettle2) (hi : seekInside s = true) :
    s.LastSettlePasses :=
  ⟨hp, abs_le.mp (of_decide_eq_true hi)⟩

theorem backoffEnds_of_abs_le {s : State} (hp : s.phase = .hBackoff) (hc : |s.c - s.start.toInt| ≤ tolZ s) :
    s.BackoffEnds :=
  ⟨hp, (Int.natCast_natAbs _).trans_le hc⟩

/-- The fatal conditions of R241 on the rationals that the width registers stand for. -/
theorem entryFatal_eq_true {s : State} :
    entryFatal s = true ↔
      val s.setup.workspaceWidth > val s.setup.limitWidth ∨ val s.setup.limitWidth ≤ 0 ∨
        (s.live.limLo = false ∧ s.live.limHi = false) := by
  simp [entryFatal, active_eq_true, val_lt_val, val_nonpos, or_assoc]

/-- A homing step that changes `MC_STATE` is HomeFail(1), HomeFail(2) or the end of a successful homing. -/
theorem HomingStep.mcRow {s t : State} (hs : HomingStep s t) (hm : s.mcState = .homing)
    (hne : t.mcState ≠ s.mcState) : McRow .sequencer s t := by
  cases hs with
  | done hp hi => exact .inr (.inr (.inr (.inl ⟨hm, rfl, rfl, lastSettlePasses_of_seekInside hp hi⟩)))
  | failRec hp hc => exact .inr (.inr (.inr (.inr (.inl ⟨hm, rfl, rfl, backoffEnds_of_abs_le hp hc⟩))))
  | failEntry hp hf =>
    exact .inr (.inr (.inr (.inr (.inr (.inl ⟨hm, rfl, rfl, .inl ⟨hp, entryFatal_eq_true.mp hf⟩⟩)))))
  | failSpan hp ha hc =>
    exact .inr (.inr (.inr (.inr (.inr (.inl ⟨hm, rfl, rfl, .inr ⟨hp, active_eq_true.mp ha, hc⟩⟩)))))
  | enter | move | lowerZero | calibrated => exact absurd rfl hne

/-- What a phase of a run leads to: the run's end for a cause that is not STOP's, a state of the same run, or a
fault. -/
inductive RunOutcome (s : State) : Result → Prop
  | exit (c : Cause) (hc : c ≠ .stopped) : RunOutcome s (.next (s.runExit c))
  | stay (t : State) (ht : t.mcState = s.mcState) : RunOutcome s (.next t)
  | fault (f : Fault) : RunOutcome s (.fault f)

/-- A test that ends the run where it holds. -/
theorem RunOutcome.exit_if {s : State} {r : Result} {p : Prop} [Decidable p] (c : Cause) (hc : c ≠ .stopped)
    (h : RunOutcome s r) : RunOutcome s (if p then .next (s.runExit c) else r) := by
  split
  · exact .exit c hc
  · exact h

theorem pathIterate_outcome (s : State) : RunOutcome s (pathIterate s) := by
  unfold pathIterate
  split
  · exact .fault _
  · exact .stay _ (by simp)

theorem visIterate_outcome (s : State) : RunOutcome s (visIterate s) := by
  unfold visIterate
  split
  · exact .fault _
  · exact .stay _ (by simp)

/-- R305: four ends before the handoff, then the two ends of the workspace check. -/
theorem rSampleStep_outcome (s : State) : RunOutcome s (rSampleStep s) := by
  unfold rSampleStep
  refine .exit_if _ nofun (.exit_if _ nofun (.exit_if _ nofun (.exit_if _ nofun ?_)))
  split
  · exact .stay _ rfl
  · cases wsCheck s.setup.slackHiPath s with
    | high => exact .exit _ nofun
    | low => exact .exit _ nofun
    | ok => exact pathIterate_outcome s

/-- R341: two ends, then the two of the workspace check. -/
theorem rVSampleStep_outcome (s : State) : RunOutcome s (rVSampleStep s) := by
  unfold rVSampleStep
  refine .exit_if _ nofun (.exit_if _ nofun ?_)
  cases wsCheck s.setup.slackHiVis s with
  | high => exact .exit _ nofun
  | low => exact .exit _ nofun
  | ok => exact visIterate_outcome s

theorem rWaitStep_mcState (s : State) : (rWaitStep s).mcState = s.mcState := by
  obtain ⟨_, e⟩ | ⟨_, _, e⟩ | ⟨_, _, e⟩ := rWaitStep_cases s <;> rw [e] <;> rfl

theorem phaseStep_outcome {s : State} (hp : s.phase.isHoming = false) : RunOutcome s (phaseStep s) := by
  unfold phaseStep
  cases hq : s.phase with
  | hEntry | hProbeDn | hBackoff | hProbeUp | hCleanDn | hCleanDnConf | hCleanUp | hCleanUpConf | hMoveOff | hSeek
  | hSettle1 | hSettle2 =>
    rw [hq] at hp
    cases hp
  | rest => exact .fault _
  | rWait => exact .stay _ (rWaitStep_mcState s)
  | rSample => exact rSampleStep_outcome s
  | rCommit => exact .stay _ (by simp [rCommitStep])
  | rVSample => exact rVSampleStep_outcome s
  | rVCommit => exact .stay _ (by simp [rVCommitStep])

theorem Cause.mem_of_ne_stopped {c : Cause} (h : c ≠ .stopped) :
    c ∈ [Cause.complete, .reached, .abortLatch, .abortWsHigh, .abortWsLow] := by
  cases c with
  | stopped => contradiction
  | complete | reached | abortLatch | abortWsHigh | abortWsLow => decide

/-- A run's step that changes `MC_STATE` is RunExit for one of the sequencer's causes. -/
theorem RunOutcome.mcRow {s t : State} (h : RunOutcome s (.next t)) (hr : s.mcState.isRun = true)
    (hne : t.mcState ≠ s.mcState) : McRow .sequencer s t := by
  cases h with
  | exit c hc =>
    exact .inr (.inr (.inr (.inr (.inr (.inr (.inr (.inr (.inl ⟨hr, rfl, c, Cause.mem_of_ne_stopped hc, rfl⟩))))))))
  | stay _ ht => exact absurd ht hne

theorem sequencerStep_mcRow {s t : State} (h : sequencerStep s = .next t) (hne : t.mcState ≠ s.mcState) :
    McRow .sequencer s t := by
  obtain ⟨_, rfl⟩ | ⟨hb, hf, hs⟩ := sequencerStep_cases h
  · exact absurd rfl hne
  · cases hp : s.phase.isHoming with
    | false => exact (hs ▸ phaseStep_outcome hp : RunOutcome s (.next t)).mcRow (isRun_of_phaseFits hb hf hp) hne
    | true =>
      obtain ⟨u, hu, hstep⟩ := phaseStep_of_homing hp
      cases hu.symm.trans hs
      exact hstep.mcRow (homing_of_phaseFits hf hp) hne

/-! ## The operations' part in the transitions -/

/-- MC_INIT, HOME, STOP and the RUN commands are the operations that change `MC_STATE`, each from the states and with
the preconditions of its row. -/
theorem Effect.mcRow {i : Instr} {x : Turn} {s t : State} (he : Effect i s t) (hx : isTurnOf i x)
    (hne : t.mcState ≠ s.mcState) : McRow x s t := by
  cases he with
  | init hm => exact .inr (.inl ⟨hm, rfl, hx⟩)
  | home hm => exact .inr (.inr (.inl ⟨hm, rfl, hx⟩))
  | stopHoming hm => exact .inr (.inr (.inr (.inr (.inr (.inr (.inl ⟨hm, rfl, hx⟩))))))
  | run k hi ha =>
    obtain ⟨hils, hvel, hdist, hhomed, hvision⟩ := runRefusal_eq_none.mp ha
    exact .inr (.inr (.inr (.inr (.inr (.inr (.inr (.inl
      ⟨hils, hhomed, k, i, _, _, _, hi, hx, hvel, hdist, hvision⟩)))))))
  | stopRun hm =>
    exact .inr (.inr (.inr (.inr (.inr (.inr (.inr (.inr (.inr ⟨hm, rfl, rfl, hx⟩))))))))
  | write r x hw => exact absurd (by rw [storeReg_frame]; rfl) hne
  | clear m hb => exact absurd (by simp) hne
  | push m x hb hl => exact absurd (by simp) hne
  | _ => exact absurd rfl hne

/-- Of the turns, reset, an operation and a sequencer step can change `MC_STATE`, each along its rows. -/
theorem takeTurn_mcRow {x : Turn} {s t : State} (h : takeTurn x s = .next t) (hne : t.mcState ≠ s.mcState) :
    McRow x s t := by
  obtain ⟨rfl, e⟩ | ⟨i, hi, e⟩ | ⟨_, e⟩ | ⟨_, e⟩ | ⟨rfl, e⟩ := takeTurn_cases x s <;> rw [e] at h
  · cases h
    exact .inl ⟨rfl, rfl⟩
  · exact (effect_of_exec h).mcRow hi hne
  · cases h
    exact absurd rfl hne
  · cases h
    exact absurd rfl hne
  · exact sequencerStep_mcRow h hne

/-- Settles O55: a step is a turn taken in the presented state, which has the `MC_STATE` of before. -/
theorem stateMachineTransitions : Obligations.StateMachineTransitions := fun s _ hstep hne =>
  takeTurn_mcRow hstep (s.presented_mcState ▸ hne)

/-! ## The RUN commands (R211 to R216) -/

/-- Each RUN command is RunAccept with the parameters of its row (R212 to R216). -/
theorem exec_of_mem_runCommands {k : Tick} {i : Instr} {m : McState} {nv nd nz : Bool}
    (h : (i, m, nv, nd, nz) ∈ runCommands k) (s : State) : exec i s = runAccept m k nv nd nz s := by
  simp only [runCommands, List.mem_cons, Prod.mk.injEq, List.not_mem_nil, or_false] at h
  rcases h with ⟨rfl, rfl, rfl, rfl, rfl⟩ | ⟨rfl, rfl, rfl, rfl, rfl⟩ | ⟨rfl, rfl, rfl, rfl, rfl⟩ |
    ⟨rfl, rfl, rfl, rfl, rfl⟩ | ⟨rfl, rfl, rfl, rfl, rfl⟩ <;> rfl

theorem runAccept_of_refused {nv nd nz : Bool} {s : State} {st : Status} (h : runRefusal nv nd nz s = some st)
    (m : McState) (k : Tick) : runAccept m k nv nd nz s = .next (s.withRsp st 0#64) := by
  simp [runAccept, h, respond]

theorem runAccept_of_accepted {nv nd nz : Bool} {s : State} (h : runRefusal nv nd nz s = none) (m : McState)
    (k : Tick) : runAccept m k nv nd nz s = .next ((s.runAccepted m k).withRsp .ok 0#64) := by
  simp [runAccept, h, respond]

/-- Settles O23: the premises are the tests of R211, all passed. -/
theorem runCommandsAccepted : Obligations.RunCommandsAccepted := by
  intro k s i m nv nd nz hi hils hhomed hvel hdist hvision
  have hnone : runRefusal nv nd nz s = none :=
    runRefusal_eq_none.mpr ⟨McState.isIls_iff_mem.mpr hils, fun h => mt List.length_eq_zero_iff.mpr (hvel h),
      fun h => mt List.length_eq_zero_iff.mpr (hdist h), hhomed, hvision⟩
  rw [exec_of_mem_runCommands hi, runAccept_of_accepted hnone]
  rfl

theorem runRefusal_of_not_isIls {s : State} (h : s.mcState.isIls = false) (nv nd nz : Bool) :
    runRefusal nv nd nz s = some .errState := by
  simp [runRefusal, h]

theorem runRefusal_of_noSetpoints {nv nd : Bool} {s : State} (hm : s.mcState.isIls = true)
    (h : (nv = true ∧ s.mem.vel = []) ∨ (nd = true ∧ s.mem.dist = [])) (nz : Bool) :
    runRefusal nv nd nz s = some .errNoSetpoints := by
  obtain ⟨hn, he⟩ | ⟨hn, he⟩ := h
  · simp [runRefusal, hm, hn, he]
  · simp [runRefusal, hm, hn, he]

/-- Past the tests of the state and of the setpoints, the flag HOMED and the vision binding decide (R405). -/
theorem runRefusal_of_setpoints {nv nd : Bool} {s : State} (hm : s.mcState.isIls = true)
    (hv : ¬ (nv = true ∧ s.mem.vel = [])) (hd : ¬ (nd = true ∧ s.mem.dist = [])) (nz : Bool) :
    runRefusal nv nd nz s =
      if s.flags.homed = false then some .errNotHomed
      else if nz = true ∧ s.setup.kvisSet = false then some .errNoVgain
      else if nz = true ∧ s.setup.visBound = false then some .errNoVbind
      else none := by
  simp [runRefusal, hm, hv, hd]

/-- Settles O24: each clause is the test of `runRefusal` that fails first. -/
theorem runCommandsRefusedInOrder : Obligations.RunCommandsRefusedInOrder := by
  intro k s i m nv nd nz hi ils noVel noDist noGain noBind
  have refused : ∀ {st : Status}, runRefusal nv nd nz s = some st → exec i s = .next (s.withRsp st 0#64) :=
    fun h => (exec_of_mem_runCommands hi s).trans (runAccept_of_refused h m k)
  refine ⟨fun hm => refused ?_, fun hm h => refused ?_, fun hm hv hd hh => refused ?_,
    fun hm hv hd hh hg => refused ?_, fun hm hv hd hh hg hb => refused ?_⟩
  · exact runRefusal_of_not_isIls (McState.isIls_eq_false_iff_not_mem.mpr hm) nv nd nz
  · exact runRefusal_of_noSetpoints (McState.isIls_iff_mem.mpr hm) h nz
  · rw [runRefusal_of_setpoints (McState.isIls_iff_mem.mpr hm) hv hd, if_pos hh]
  · rw [runRefusal_of_setpoints (McState.isIls_iff_mem.mpr hm) hv hd, hh, if_neg nofun, if_pos hg]
  · rw [runRefusal_of_setpoints (McState.isIls_iff_mem.mpr hm) hv hd, hh, if_neg nofun, if_neg hg, if_pos hb]

/-! ## STOP (R220, R303) -/

theorem exec_stop_of_ne_uninit {s : State} (h : s.mcState ≠ .uninit) :
    exec .stop s = .next (s.stopped.withRsp .ok 0#64) := by
  simp [exec, execStop, h, respond]

theorem State.stopped_of_homing {s : State} (h : s.mcState = .homing) :
    s.stopped = { s with duty := 0#8, homeResult := .stopped, mcState := .idle, phase := .rest } := by
  rw [State.stopped, h]

theorem State.stopped_of_isRun {s : State} (h : s.mcState.isRun = true) : s.stopped = s.runExit .stopped := by
  unfold State.stopped
  cases hm : s.mcState with
  | runOl | runPdff | runPdffVis | runVis | runPoint => rfl
  | uninit | idle | homing | homeFailRec | homeFailFatal | homed =>
    rw [hm] at h
    cases h

theorem State.stopped_of_not_isBusy {s : State} (h : s.mcState.isBusy = false) : s.stopped = s.stopMotor := by
  unfold State.stopped
  cases hm : s.mcState with
  | uninit | idle | homed | homeFailRec | homeFailFatal => rfl
  | homing | runOl | runPdff | runPdffVis | runVis | runPoint =>
    rw [hm] at h
    cases h

/-- R303: the end of a run sets the done flag of the loop in progress and leaves the other. -/
theorem Flags.endRun_eq (p : Phase) (f : Flags) :
    f.endRun p = { f with
      latchEn := false, allDone := true,
      pathDone := if p = .rSample ∨ p = .rCommit then true else f.pathDone,
      visDone := if p = .rVSample ∨ p = .rVCommit then true else f.visDone } := by
  cases p <;> simp [Flags.endRun, Phase.isPathLoop, Phase.isVisLoop]

/-- Settles O25: what `State.stopped` is in each kind of state. -/
theorem stopByState : Obligations.StopByState := by
  refine fun s => ⟨fun hm => ?_, fun hm => ?_, fun hm => ?_, fun hm => ?_⟩
  · simp [exec, execStop, hm, respond, State.withRsp]
  · rw [exec_stop_of_ne_uninit (by rw [hm]; nofun), State.stopped_of_homing hm]
    rfl
  · have hr := McState.isRun_iff_mem.mpr hm
    rw [exec_stop_of_ne_uninit (fun e => by rw [e] at hr; cases hr), State.stopped_of_isRun hr, State.runExit,
      Flags.endRun_eq]
    rfl
  · have hi := McState.isIls_iff_mem.mpr hm
    rw [exec_stop_of_ne_uninit (fun e => by rw [e] at hi; cases hi),
      State.stopped_of_not_isBusy (McState.isBusy_eq_false_of_isIls hi)]
    rfl

/-! ## MC_INIT, HOME and CLR_DONE (R201, R210, R221) -/

/-- Settles O21: the one test of R201, passed and failed. -/
theorem mcInitOnce : Obligations.McInitOnce := by
  refine fun s => ⟨fun hm => ?_, fun hm => ?_⟩
  · rw [exec, execMcInit, if_neg (not_not.mpr hm)]
    rfl
  · rw [exec, execMcInit, if_pos hm]
    rfl

/-- Settles O22: the one test of R210, passed and failed. -/
theorem homeStartsHoming : Obligations.HomeStartsHoming := by
  refine fun s => ⟨fun hm => ?_, fun hm => ?_⟩
  · rw [exec, execHome, McState.isIls_iff_mem.mpr hm, if_neg nofun]
    rfl
  · rw [exec, execHome, if_pos (McState.isIls_eq_false_iff_not_mem.mpr hm)]
    rfl

/-- Settles O26: the word is a closed term of the decoder, and the command has no test. -/
theorem clrDoneClearsAllDone : Obligations.ClrDoneClearsAllDone :=
  ⟨by decide, fun _ => rfl⟩

end Sys2Proof.Machine
end

section
/-!
PROOFS. The homing sequencer phase by phase (O35 to O40): 42_homing.md R241 to R253.
-/

namespace Sys2Proof.Machine

/-! ## One step while homing (R110) -/

/-- The step of each homing phase as a function of the state, and nothing in a phase that is not one of homing. -/
def homingStep : Phase → State → State
  | .hEntry => hEntryStep
  | .hProbeDn => hProbeDnStep
  | .hBackoff => hBackoffStep
  | .hProbeUp => hProbeUpStep
  | .hCleanDn => hCleanDnStep
  | .hCleanDnConf => hCleanDnConfStep
  | .hCleanUp => hCleanUpStep
  | .hCleanUpConf => hCleanUpConfStep
  | .hMoveOff => hMoveOffStep
  | .hSeek => hSeekStep
  | .hSettle1 => hSettle1Step
  | .hSettle2 => hSettle2Step
  | .rest | .rWait | .rSample | .rCommit | .rVSample | .rVCommit => id

theorem phaseStep_eq_homingStep {s : State} (hh : s.phase.isHoming = true) :
    phaseStep s = .next (homingStep s.phase s) := by
  unfold phaseStep
  cases hp : s.phase with
  | rest | rWait | rSample | rCommit | rVSample | rVCommit =>
    rw [hp] at hh
    cases hh
  | _ => rfl

/-- A turn of the sequencer while homing is the step of the phase that `PHASE` holds. -/
theorem sequencerStep_homing {s t : State} {p : Phase} (hm : s.mcState = .homing) (hp : s.phase = p)
    (hh : p.isHoming = true) (ht : homingStep p s = t) : sequencerStep s = .next t := by
  subst hp
  rw [sequencerStep_busy (hm ▸ rfl) (by rwa [hm, phaseFits_homing]), phaseStep_eq_homingStep hh, ht]

/-! ## The tests of the phases -/

theorem active_lo_iff {s : State} : active .lo s = true ↔ s.live.limLo = false := active_eq_true

theorem active_hi_iff {s : State} : active .hi s = true ↔ s.live.limHi = false := active_eq_true

theorem not_active_lo_iff {s : State} : ¬ active .lo s = true ↔ s.live.limLo = true := by
  simp [active]

theorem not_active_hi_iff {s : State} : ¬ active .hi s = true ↔ s.live.limHi = true := by
  simp [active]

/-- Contact: one of the two switches is active (R242, R243). -/
theorem contact_iff {s : State} :
    (active .lo s || active .hi s) = true ↔ s.live.limLo = false ∨ s.live.limHi = false := by
  simp [active_eq_true]

theorem not_contact {s : State} (hlo : s.live.limLo = true) (hhi : s.live.limHi = true) :
    ¬ (active .lo s || active .hi s) = true := by
  rw [contact_iff]
  simp [hlo, hhi]

theorem not_entryFatal {s : State} (hw : val s.setup.workspaceWidth ≤ val s.setup.limitWidth)
    (hl : 0 < val s.setup.limitWidth) (ha : s.live.limLo = true ∨ s.live.limHi = true) :
    ¬ entryFatal s = true := by
  rw [entryFatal_eq_true]
  rintro (h | h | ⟨hlo, hhi⟩)
  · exact not_lt.mpr hw h
  · exact not_le.mpr hl h
  · simp [hlo, hhi] at ha

/-- The back-off's test: within `TOL` of `START` (R244). -/
theorem backoffInside_iff {s : State} :
    |s.c - s.start.toInt| ≤ tolZ s ↔
      ((s.enc.count.toInt - s.start.toInt).natAbs : ℤ) ≤ s.setup.tol.toNat := by
  rw [Int.natCast_natAbs]
  rfl

/-- The seek's test as a pair of bounds (R251 to R253). -/
theorem seekInside_iff {s : State} :
    seekInside s = true ↔ -(s.setup.tol.toNat : ℚ) ≤ seekError s ∧ seekError s ≤ (s.setup.tol.toNat : ℚ) := by
  rw [seekInside, decide_eq_true_iff, abs_le]

/-! ## Entry, probes and back-off (R241 to R244) -/

/-- Settles O35: the fatal test of R241, passed and failed. -/
theorem homingEntry : Obligations.HomingEntry := fun _ hm hp =>
  ⟨fun hf => sequencerStep_homing hm hp rfl (if_pos (entryFatal_eq_true.mpr hf)),
    fun hw hl ha => sequencerStep_homing hm hp rfl (if_neg (not_entryFatal hw hl ha))⟩

/-- In both probes a contact of either switch leads to the back-off (R242, R243). -/
theorem sequencerStep_of_contact {s : State} (hm : s.mcState = .homing) (hp : s.phase = .hProbeDn ∨ s.phase = .hProbeUp)
    (hc : s.live.limLo = false ∨ s.live.limHi = false) : sequencerStep s = .next (s.goto .hBackoff) :=
  hp.elim (fun hp => sequencerStep_homing hm hp rfl (if_pos (contact_iff.mpr hc)))
    fun hp => sequencerStep_homing hm hp rfl (if_pos (contact_iff.mpr hc))

/-- Settles O36: each probe looks for contact, then at its ceiling; the back-off looks at the tolerance, then at the
sign of the error. -/
theorem homingProbesAndBackoff : Obligations.HomingProbesAndBackoff := by
  refine fun s hm => ⟨sequencerStep_of_contact hm, fun hlo hhi => ?_, fun hp e he => ?_⟩
  · have clear := not_contact hlo hhi
    refine ⟨fun hp hc => ?_, fun hp hc => ?_, fun hp hc => ?_, fun hp hc => ?_⟩
    · exact sequencerStep_homing hm hp rfl ((if_neg clear).trans (if_pos hc))
    · exact sequencerStep_homing hm hp rfl ((if_neg clear).trans (if_neg (not_le.mpr hc)))
    · exact sequencerStep_homing hm hp rfl ((if_neg clear).trans (if_pos hc))
    · exact sequencerStep_homing hm hp rfl ((if_neg clear).trans (if_neg (not_le.mpr hc)))
  · subst he
    have outside (h : (s.setup.tol.toNat : ℤ) < (s.enc.count.toInt - s.start.toInt).natAbs) :
        ¬ |s.c - s.start.toInt| ≤ tolZ s := mt backoffInside_iff.mp (not_le.mpr h)
    refine ⟨fun hin => ?_, fun hout hneg => ?_, fun hout hpos => ?_⟩
    · exact sequencerStep_homing hm hp rfl (if_pos (backoffInside_iff.mpr hin))
    · exact sequencerStep_homing hm hp rfl ((if_neg (outside hout)).trans (if_pos (sub_neg.mp hneg)))
    · exact sequencerStep_homing hm hp rfl ((if_neg (outside hout)).trans (if_neg (sub_pos.mp hpos).not_gt))

/-! ## The clean run and the calibration (R245 to R249) -/

/-- Settles O37: each phase of the clean run reads its switch once. -/
theorem homingCleanRun : Obligations.HomingCleanRun := fun _ hm =>
  ⟨fun hp hlo => sequencerStep_homing hm hp rfl (if_pos (active_lo_iff.mpr hlo)),
    fun hp hlo => sequencerStep_homing hm hp rfl (if_neg (not_active_lo_iff.mpr hlo)),
    fun hp hlo => sequencerStep_homing hm hp rfl (if_pos (active_lo_iff.mpr hlo)),
    fun hp hlo => sequencerStep_homing hm hp rfl (if_neg (not_active_lo_iff.mpr hlo)),
    fun hp hhi => sequencerStep_homing hm hp rfl (if_pos (active_hi_iff.mpr hhi)),
    fun hp hhi => sequencerStep_homing hm hp rfl (if_neg (not_active_hi_iff.mpr hhi))⟩

/-- Settles O38: the second reading, then the sign of the count; `calibrate` is R247's formulas. -/
theorem homingCalibrates : Obligations.HomingCalibrates := by
  refine fun s hm hp => ⟨fun hhi hc => ?_, fun hhi hc => ?_, fun hhi => ?_⟩
  · exact sequencerStep_homing hm hp rfl ((if_pos (active_hi_iff.mpr hhi)).trans (if_pos hc))
  · exact sequencerStep_homing hm hp rfl ((if_pos (active_hi_iff.mpr hhi)).trans (if_neg (not_le.mpr hc)))
  · exact sequencerStep_homing hm hp rfl (if_neg (not_active_hi_iff.mpr hhi))

theorem calibrate_wwCount_nonneg {c : Setup} {n : S32} (hn : 0 < n.toInt) (hw : 0 ≤ val c.workspaceWidth)
    (hl : 0 < val c.limitWidth) : 0 ≤ (calibrate c n).wwCount :=
  mul_nonneg hw (calibrate_cpm_pos hn (val_pos.mp hl)).le

/-- A workspace no wider than the limits has at most the counts of the span. -/
theorem calibrate_wwCount_le {c : Setup} {n : S32} (hn : 0 < n.toInt)
    (hw : val c.workspaceWidth ≤ val c.limitWidth) (hl : 0 < val c.limitWidth) :
    (calibrate c n).wwCount ≤ (n.toInt : ℚ) :=
  calc (calibrate c n).wwCount
      = val c.workspaceWidth * (calibrate c n).cpm := rfl
    _ ≤ val c.limitWidth * (calibrate c n).cpm :=
        mul_le_mul_of_nonneg_right hw (calibrate_cpm_pos hn (val_pos.mp hl)).le
    _ = n.toInt := mul_div_cancel₀ _ hl.ne'

/-- Settles O39: `LIMIT_BUFFER` is half of what `WW_COUNT`, between 0 and the span, leaves of the span. -/
theorem calibrationBounds : Obligations.CalibrationBounds := by
  intro c n hn hw hwl hl
  have ww_nonneg := calibrate_wwCount_nonneg hn hw hl
  have ww_le := calibrate_wwCount_le hn hwl hl
  have buffer : (calibrate c n).limitBuffer = ((n.toInt : ℚ) - (calibrate c n).wwCount) / 2 := rfl
  refine ⟨calibrate_cpm_pos hn (val_pos.mp hl), ww_nonneg, ww_le, ?_, ?_⟩ <;> rw [buffer] <;> linarith

/-! ## The seek (R250 to R253) -/

/-- Settles O40: H_MOVE_OFF reads the upper switch; the seek and the settle checks share the test of R251. -/
theorem homingSeeksAndSettles : Obligations.HomingSeeksAndSettles := by
  intro s hm e inside
  have pass (hin : inside) : seekInside s = true := seekInside_iff.mpr hin
  have miss (hout : ¬ inside) : ¬ seekInside s = true := mt seekInside_iff.mp hout
  refine ⟨fun hp hhi => ?_, fun hp hhi => ?_, fun hp hin => ?_, fun hp hout hpos => ?_, fun hp hout hneg => ?_,
    fun hp hin => ?_, fun hp hout => ?_, fun hp hin => ?_⟩
  · exact sequencerStep_homing hm hp rfl (if_neg (not_active_hi_iff.mpr hhi))
  · exact sequencerStep_homing hm hp rfl (if_pos (active_hi_iff.mpr hhi))
  · exact sequencerStep_homing hm hp rfl (if_pos (pass hin))
  · exact sequencerStep_homing hm hp rfl ((if_neg (miss hout)).trans (if_pos hpos))
  · exact sequencerStep_homing hm hp rfl ((if_neg (miss hout)).trans (if_neg (not_lt.mpr hneg.le)))
  · exact sequencerStep_homing hm hp rfl (if_pos (pass hin))
  · obtain hp | hp := hp
    · exact sequencerStep_homing hm hp rfl (if_neg (miss hout))
    · exact sequencerStep_homing hm hp rfl (if_neg (miss hout))
  · exact sequencerStep_homing hm hp rfl (if_pos (pass hin))

end Sys2Proof.Machine
end

section
/-!
PROOFS. The output stages (O47): 42_homing.md R240, 44_control_laws.md R310, R311.
-/

namespace Sys2Proof.Machine

/-! ## Actuate (R310) -/

/-- Within the range of a duty the clip does nothing. -/
theorem actuate_duty_toNat {w : ℚ} (h : |w| ≤ 255) : ((actuate w).duty.toNat : ℤ) = roundAway |w| :=
  (clipDuty_toNat _).trans (clip_of_mem (roundAway_nonneg (abs_nonneg w)) (roundAway_le (by exact_mod_cast h)))

theorem actuate_duty_nearest {w : ℚ} (h : |w| ≤ 255) : abs (((actuate w).duty.toNat : ℚ) - |w|) ≤ 1 / 2 := by
  have toNat_eq : ((actuate w).duty.toNat : ℚ) = roundAway |w| := by exact_mod_cast actuate_duty_toNat h
  rw [toNat_eq]
  exact abs_roundAway_sub_le |w|

theorem actuate_duty_of_ge {w : ℚ} (h : 255 ≤ |w|) : (actuate w).duty = 255#8 :=
  clipDuty_of_ge (le_roundAway (by exact_mod_cast h))

/-- A command that is a duty but for its sign is that duty. -/
theorem actuate_duty_of_abs_eq {w : ℚ} {d : U8} (h : |w| = d.toNat) : (actuate w).duty = d := by
  have round_eq : roundAway |w| = d.toNat := by
    rw [h]
    exact_mod_cast roundAway_intCast d.toNat
  exact (congrArg clipDuty round_eq).trans (clipDuty_toNat_cast d)

theorem actuate_natCast (d : U8) : actuate (d.toNat : ℚ) = { duty := d, dir := true } :=
  congrArg₂ Drive.mk (actuate_duty_of_abs_eq (Nat.abs_cast _)) (decide_eq_true d.toNat.cast_nonneg)

/-- Zero is excluded, for its direction is 1. -/
theorem actuate_neg_natCast {d : U8} (h : d ≠ 0#8) : actuate (-(d.toNat : ℚ)) = { duty := d, dir := false } := by
  have pos : 0 < (d.toNat : ℚ) := by exact_mod_cast BitVec.toNat_pos_of_ne_zero h
  exact congrArg₂ Drive.mk (actuate_duty_of_abs_eq (by rw [abs_neg, Nat.abs_cast])) (decide_eq_false (by linarith))

/-! ## DriveUp and DriveDown (R240) -/

theorem upDrive_eq_actuate {c : Setup} (h : c.minUp ≠ 0#8) :
    upDrive c = actuate ((c.minUp.toNat : ℚ) * if c.dirNeg = true then -1 else 1) := by
  unfold upDrive
  cases c.dirNeg with
  | false => simp [actuate_natCast]
  | true => simp [actuate_neg_natCast h]

theorem downDrive_eq_actuate {c : Setup} (h : c.minDown ≠ 0#8) :
    downDrive c = actuate (-(c.minDown.toNat : ℚ) * if c.dirNeg = true then -1 else 1) := by
  unfold downDrive
  cases c.dirNeg with
  | false => simp [actuate_neg_natCast h]
  | true => simp [actuate_natCast]

/-! ## The open-loop stage (R311) -/

theorem dirf_cast (s : State) : (dirf s : ℚ) = if s.setup.dirNeg = true then -1 else 1 := by
  unfold dirf
  split <;> simp

theorem velAt_of_getElem? {s : State} {t : Nat} {x : Fixed} (h : s.mem.vel[t]? = some x) : velAt t s = val x := by
  simp [velAt, h]

/-- The open-loop stage as a function of its command. -/
theorem openLoop_of_getElem? {s : State} {t : Nat} {x : Fixed} (h : s.mem.vel[t]? = some x) {w : ℚ}
    (hw : w = val s.setup.pwmConst * (if s.setup.dirNeg = true then -1 else 1) * val x) :
    openLoop t s = { duty := clipDuty (roundAway w), dir := decide (0 ≤ w) } := by
  rw [openLoop, velAt_of_getElem? h, dirf_cast, ← hw]

theorem roundAway_nonpos {x : ℚ} (h : x ≤ 0) : roundAway x ≤ 0 := roundAway_le (by exact_mod_cast h)

/-- Settles O47: R311 is R310 without the absolute value, so that the clip takes a negative command to zero. -/
theorem outputStages : Obligations.OutputStages := by
  refine ⟨fun c => ⟨upDrive_eq_actuate, downDrive_eq_actuate⟩, fun w =>
    ⟨decide_eq_true_iff, actuate_duty_nearest, actuate_duty_of_ge, fun s t x hx hw => ⟨fun h => ?_, fun h => ?_⟩⟩⟩
  · rw [openLoop_of_getElem? hx hw, actuate, abs_of_nonneg h]
  · rw [openLoop_of_getElem? hx hw, clipDuty_of_nonpos (roundAway_nonpos h.le), decide_eq_false (not_le.mpr h)]

end Sys2Proof.Machine
end

section
/-!
PROOFS. The limit-switch latch (O18, O19): 43_limit_latch.md R280 to R283.
-/

namespace Sys2Proof.Machine

/-! ## LIM_EDGE (R280) -/

/-- R280: latching off, a rising edge, or a re-read that is high again each drop the event. -/
theorem exec_limEdge_drops {p : LimPin} {l : Bool} {s : State}
    (h : s.flags.latchEn = false ∨ l = true ∨ pinRead p s = true) : exec (.limEdge p l) s = .next s := by
  change execLimEdge p l s = drop s
  unfold execLimEdge
  obtain hoff | hrise | hhigh := h
  · rw [if_pos hoff]
  · rw [if_pos hrise, ite_self]
  · rw [if_pos hhigh, ite_self, ite_self]

/-- Settles O18: the level the statement names is the re-read of the pin. -/
theorem limEdgeTripsOrDrops : Obligations.LimEdgeTripsOrDrops := by
  intro p l s level hlevel
  have hread : level = pinRead p s := by cases p <;> exact hlevel
  subst hread
  refine ⟨fun he hl hlow => ?_, exec_limEdge_drops⟩
  subst hl
  exact exec_limEdge_trips he hlow

/-! ## LATCH_ACT, LATCH_DEACT, LATCH_RESET (R281 to R283) -/

/-- Each of the three commands refuses in UNINIT before it looks at its bit. -/
theorem exec_latchCommand_of_uninit {s : State} (hm : s.mcState = .uninit) {i : Instr}
    (hi : i ∈ [Instr.latchAct, .latchDeact, .latchReset]) : exec i s = respond .errState 0#64 s := by
  simp only [List.mem_cons, List.not_mem_nil, or_false] at hi
  obtain rfl | rfl | rfl := hi
  · exact if_pos hm
  · exact if_pos hm
  · exact if_pos hm

theorem exec_latchAct {s : State} (hm : s.mcState ≠ .uninit) :
    exec .latchAct s = respond .ok 0#64 { s with flags := { s.flags with latchEn := true } } := if_neg hm

theorem exec_latchDeact {s : State} (hm : s.mcState ≠ .uninit) :
    exec .latchDeact s = respond .ok 0#64 { s with flags := { s.flags with latchEn := false } } := if_neg hm

theorem exec_latchReset {s : State} (hm : s.mcState ≠ .uninit) :
    exec .latchReset s = respond .ok 0#64 { s with flags := { s.flags with limitLatch := false } } := if_neg hm

/-- Settles O19, by the test for UNINIT that all three commands share. -/
theorem latchCommands : Obligations.LatchCommands := fun _ =>
  ⟨fun hm => ⟨exec_latchAct hm, exec_latchDeact hm, exec_latchReset hm⟩,
   fun hm _ hi => exec_latchCommand_of_uninit hm hi⟩

end Sys2Proof.Machine
end

section
/-!
PROOFS. The parts of a run's iteration: the end of a run (O50), the commit (O44), the capture (O49), the vision law (O46)
and the wait for the start tick (O41): 44_control_laws.md R301, R303, R306, R330, R342, R343.
-/

namespace Sys2Proof.Machine

/-! ## One step of a run, by its phase (R300) -/

/-- A phase other than `rest` fits only a busy state, so the sequencer runs it. -/
theorem sequencerStep_of_phaseFits {s : State} {p : Phase} (hp : s.phase = p) (hf : phaseFits s.mcState p = true)
    (hne : p ≠ .rest) : sequencerStep s = phaseStep s := by
  subst hp
  cases hb : s.mcState.isBusy with
  | false => exact absurd (phase_eq_rest hb hf) hne
  | true => exact sequencerStep_busy hb hf

theorem sequencerStep_rWait {s : State} (hp : s.phase = .rWait) (hf : phaseFits s.mcState .rWait = true) :
    sequencerStep s = .next (rWaitStep s) := by
  rw [sequencerStep_of_phaseFits hp hf nofun, phaseStep, hp]

theorem sequencerStep_rSample {s : State} (hp : s.phase = .rSample) (hf : phaseFits s.mcState .rSample = true) :
    sequencerStep s = rSampleStep s := by
  rw [sequencerStep_of_phaseFits hp hf nofun, phaseStep, hp]

theorem sequencerStep_rCommit {s : State} (hp : s.phase = .rCommit) (hf : phaseFits s.mcState .rCommit = true) :
    sequencerStep s = .next (s.commit.goto .rSample) := by
  rw [sequencerStep_of_phaseFits hp hf nofun, phaseStep, hp, rCommitStep]

theorem sequencerStep_rVSample {s : State} (hp : s.phase = .rVSample) (hf : phaseFits s.mcState .rVSample = true) :
    sequencerStep s = rVSampleStep s := by
  rw [sequencerStep_of_phaseFits hp hf nofun, phaseStep, hp]

theorem sequencerStep_rVCommit {s : State} (hp : s.phase = .rVCommit) (hf : phaseFits s.mcState .rVCommit = true) :
    sequencerStep s = .next (s.commit.goto .rVSample) := by
  rw [sequencerStep_of_phaseFits hp hf nofun, phaseStep, hp, rVCommitStep]

/-- The modes of the path loop (R305). -/
theorem phaseFits_rSample_of_mem {m : McState} (h : m ∈ [McState.runOl, .runPdff, .runPdffVis, .runPoint]) :
    phaseFits m .rSample = true := by
  revert m
  decide

/-- The modes of the vision loop (R341). -/
theorem phaseFits_rVSample_of_mem {m : McState} (h : m ∈ [McState.runVis, .runPdffVis]) :
    phaseFits m .rVSample = true := by
  revert m
  decide

/-! ## The end of a run (R303) -/

/-- Settles O50: `Flags.endRun_eq` has the flags of R303, the rest is the definition. -/
theorem runExitWrites : Obligations.RunExitWrites := by
  intro s c
  rw [State.runExit, Flags.endRun_eq]

/-! ## The commit (R306, R343) -/

/-- Settles O44: both loops' COMMIT steps are `State.commit` and a return to the SAMPLE of the loop. -/
theorem commitWritesPending : Obligations.CommitWritesPending := by
  refine fun s => ⟨fun hm hp => ?_, fun hm hp => ?_⟩
  · rw [sequencerStep_rCommit hp (phaseFits_commit _ ▸ phaseFits_rSample_of_mem hm)]
    exact ⟨fun d hd => by rw [commit_of_some hd]; rfl, fun hn => by rw [commit_of_none hn]; rfl⟩
  · rw [sequencerStep_rVCommit hp (phaseFits_visCommit _ ▸ phaseFits_rVSample_of_mem hm)]
    exact ⟨fun d hd => by rw [commit_of_some hd]; rfl, fun hn => by rw [commit_of_none hn]; rfl⟩

/-! ## The capture (R330) -/

theorem captureDue_eq_false {t : Nat} {s : State} {m : U32} (hm : s.lastMs = some m) (ht : t ≤ m.toNat) :
    captureDue t s = false := by
  simp [captureDue, hm, ht]

/-- Settles O49: a capture that is not due does nothing; a due one looks at the room in the trace. -/
theorem captureAdvances : Obligations.CaptureAdvances := by
  refine fun s t d v _ => ⟨fun m hm ht => if_neg (by simp [captureDue_eq_false hm ht]), fun hdue => ?_⟩
  have due : captureDue t s = true := captureDue_eq_true.mpr hdue
  obtain ⟨hnot, _⟩ | ⟨_, hroom, e⟩ | ⟨_, hfull, e⟩ := capture_cases s t d v
  · rw [due] at hnot
    cases hnot
  · exact ⟨fun _ => e, fun h => absurd hroom h.not_gt⟩
  · exact ⟨fun h => absurd hfull h.not_ge, fun _ => e⟩

/-! ## The vision law (R342) -/

theorem visSentinel_toInt : visSentinel.toInt = -2 ^ 32 := by decide

/-- The sentinel −1 is one pattern. -/
theorem vis_eq_visSentinel {r : Fixed} : r = visSentinel ↔ r.toInt = -2 ^ 32 := by
  rw [← BitVec.toInt_inj, visSentinel_toInt]

theorem visionLaw_of_sentinel {s : State} (h : s.live.vis = visSentinel) (d : ℚ) :
    visionLaw d s = some { duty := 0#8, dir := s.dir } := if_pos h

theorem visionLaw_of_outside {s : State} (h : s.live.vis ≠ visSentinel)
    (hout : visDemand s < 0 ∨ val s.setup.workspaceWidth < visDemand s) (d : ℚ) : visionLaw d s = none :=
  (if_neg h).trans (if_pos hout)

theorem visionLaw_of_inside {s : State} {d u : ℚ} (h : s.live.vis ≠ visSentinel) (hlo : 0 ≤ visDemand s)
    (hhi : visDemand s ≤ val s.setup.workspaceWidth) (hu : visionU (visDemand s - d) s = u) :
    visionLaw d s = some (actuate (u * if s.setup.dirNeg = true then -1 else 1)) := by
  rw [← dirf_cast, ← hu]
  exact (if_neg h).trans (if_neg (not_or.mpr ⟨hlo.not_gt, hhi.not_gt⟩))

/-! The bias of 50 has the sign of the error; no error is no command. -/

theorem visionU_of_pos {e : ℚ} (h : 0 < e) (s : State) : visionU e s = val s.setup.kVis * e + 50 := by
  simp [visionU, sgn_of_pos h]

theorem visionU_of_neg {e : ℚ} (h : e < 0) (s : State) : visionU e s = val s.setup.kVis * e - 50 := by
  simp [visionU, sgn_of_neg h, sub_eq_add_neg]

theorem visionU_of_eq_zero {e : ℚ} (h : e = 0) (s : State) : visionU e s = 0 := by
  simp [visionU, h]

theorem actuate_zero : actuate 0 = { duty := 0#8, dir := true } := by
  simpa using actuate_natCast 0#8

/-- Settles O46: the sentinel first, then the workspace image of the demand, then the sign of the error. -/
theorem visionLawCases : Obligations.VisionLawCases := by
  refine fun s d => ⟨fun hr => visionLaw_of_sentinel (vis_eq_visSentinel.mpr hr) d,
    fun hr hout => visionLaw_of_outside (mt vis_eq_visSentinel.mp hr) hout d, fun hr hlo hhi => ?_⟩
  have hne : s.live.vis ≠ visSentinel := mt vis_eq_visSentinel.mp hr
  refine ⟨fun hlt => ?_, fun hgt => ?_, fun heq => ?_⟩
  · exact visionLaw_of_inside hne hlo hhi (visionU_of_pos (sub_pos.mpr hlt) s)
  · exact visionLaw_of_inside hne hlo hhi (visionU_of_neg (sub_neg.mpr hgt) s)
  · rw [visionLaw_of_inside hne hlo hhi (visionU_of_eq_zero (sub_eq_zero.mpr heq.symm) s), zero_mul, actuate_zero]

/-! ## The wait for the start tick (R301) -/

theorem tickReached_eq_true {now t0 : Tick} : tickReached now t0 = true ↔ (now - t0).toNat < 2 ^ 31 :=
  decide_eq_true_iff

theorem tickReached_eq_false {now t0 : Tick} : tickReached now t0 = false ↔ 2 ^ 31 ≤ (now - t0).toNat := by
  rw [← Bool.not_eq_true, tickReached_eq_true, not_lt]

/-- Settles O41: the comparison with the start tick, then the mode. -/
theorem runWaitsForStartTick : Obligations.RunWaitsForStartTick := by
  intro s hm hp
  rw [sequencerStep_rWait hp (phaseFits_rWait (McState.isRun_iff_mem.mpr hm))]
  obtain ⟨ahead, e⟩ | ⟨reached, vision, e⟩ | ⟨reached, path, e⟩ := rWaitStep_cases s <;> rw [e]
  · have hle := tickReached_eq_false.mp ahead
    exact ⟨fun _ => rfl, fun h => absurd h hle.not_gt, fun h => absurd h hle.not_gt⟩
  · have hlt := tickReached_eq_true.mp reached
    exact ⟨fun h => absurd hlt h.not_gt, fun _ h => absurd vision h, fun _ _ => rfl⟩
  · have hlt := tickReached_eq_true.mp reached
    exact ⟨fun h => absurd hlt h.not_gt, fun _ _ => rfl, fun _ h => absurd h path⟩

end Sys2Proof.Machine
end

section
/-!
PROOFS. The SAMPLE steps of the two loops: their ends in order and their iterations (O42, O43, O45), and workspace safety
(O52): 44_control_laws.md R304, R305, R311 to R313, R320, R341, R344.
-/

namespace Sys2Proof.Machine

/-! ## The workspace check of an iteration (R304) -/

/-- The last test of a SAMPLE step: the run ends where the count is out of bounds, else the iteration is `go`. -/
def unlessOutside (slack : U32) (go : Result) (s : State) : Result :=
  match wsCheck slack s with
  | .high => .next (s.runExit .abortWsHigh)
  | .low => .next (s.runExit .abortWsLow)
  | .ok => go

theorem unlessOutside_of_above {slack : U32} {s : State} {go : Result}
    (h : s.cal.wwCount + (slack.toNat : ℚ) < (s.c : ℚ)) :
    unlessOutside slack go s = .next (s.runExit .abortWsHigh) := by
  rw [unlessOutside, wsCheck_eq_high.mpr h]

theorem unlessOutside_of_below {slack : U32} {s : State} {go : Result}
    (ha : ¬ s.cal.wwCount + (slack.toNat : ℚ) < (s.c : ℚ)) (h : s.c < -(s.setup.slackLo.toNat : ℤ)) :
    unlessOutside slack go s = .next (s.runExit .abortWsLow) := by
  rw [unlessOutside, wsCheck_eq_low.mpr ⟨ha, h⟩]

theorem unlessOutside_of_inside {slack : U32} {s : State} {go : Result}
    (hhi : (s.c : ℚ) ≤ s.cal.wwCount + (slack.toNat : ℚ)) (hlo : -(s.setup.slackLo.toNat : ℤ) ≤ s.c) :
    unlessOutside slack go s = go := by
  rw [unlessOutside, wsCheck_eq_ok.mpr ⟨hhi, hlo⟩]

/-! ## The tests of the path loop (R305) -/

/-- `|c − POINT_TARGET| ≤ TOL` as a pair of bounds (R305, R313). -/
theorem targetReached_iff {s : State} :
    targetReached s = true ↔
      -(s.setup.tol.toNat : ℤ) ≤ s.enc.count.toInt - s.setup.pointTarget.toInt ∧
        s.enc.count.toInt - s.setup.pointTarget.toInt ≤ s.setup.tol.toNat :=
  decide_eq_true_iff.trans abs_le

/-- The point to move to is reached. -/
def State.AtTarget (s : State) : Prop := s.mcState = .runPoint ∧ targetReached s = true

/-- A playback that ends the run has no setpoint left. -/
def State.PlayedOut (s : State) : Prop :=
  (s.mcState = .runOl ∧ s.vlen ≤ runMs s) ∨ (s.mcState = .runPdff ∧ min s.vlen s.dlen ≤ runMs s)

/-- A playback that the vision phase follows has no setpoint left. -/
def State.HandsOff (s : State) : Prop := s.mcState = .runPdffVis ∧ min s.vlen s.dlen ≤ runMs s

/-- None of the tests that R305 puts before the workspace check holds. -/
structure State.PathGoesOn (s : State) : Prop where
  latch : s.flags.limitLatch = false
  target : ¬ s.AtTarget
  played : ¬ s.PlayedOut
  handsOff : ¬ s.HandsOff

theorem rSampleStep_of_latch {s : State} (hl : s.flags.limitLatch = true) :
    rSampleStep s = .next (s.runExit .abortLatch) := if_pos hl

theorem rSampleStep_of_atTarget {s : State} (hl : s.flags.limitLatch = false) (h : s.AtTarget) :
    rSampleStep s = .next (s.runExit .reached) :=
  (if_neg (by simp [hl])).trans (if_pos h)

theorem rSampleStep_of_playedOut {s : State} (hl : s.flags.limitLatch = false) (h : s.PlayedOut) :
    rSampleStep s = .next (s.runExit .complete) := by
  obtain ⟨hm, ht⟩ | ⟨hm, ht⟩ := h <;> simp [rSampleStep, hl, hm, ht]

theorem rSampleStep_of_handsOff {s : State} (hl : s.flags.limitLatch = false) (h : s.HandsOff) :
    rSampleStep s = .next (s.handoff s.live.tick) := by
  obtain ⟨hm, ht⟩ := h
  simp [rSampleStep, hl, hm, ht]

theorem rSampleStep_of_goesOn {s : State} (h : s.PathGoesOn) :
    rSampleStep s = unlessOutside s.setup.slackHiPath (pathIterate s) s := by
  obtain ⟨hl, htarget, hplayed, hhands⟩ := h
  obtain ⟨hol, hpdff⟩ := not_or.mp hplayed
  have hlatch : ¬ s.flags.limitLatch = true := by simp [hl]
  exact (if_neg hlatch).trans ((if_neg htarget).trans ((if_neg hol).trans ((if_neg hpdff).trans (if_neg hhands))))

/-- Settles O42: each clause of the statement is one test of R305. -/
theorem pathSampleEnds : Obligations.PathSampleEnds := by
  intro s t hm hp ht c near played handsOff above below
  subst ht
  rw [sequencerStep_rSample hp (phaseFits_rSample_of_mem hm)]
  have near_iff : near ↔ s.AtTarget := and_congr_right fun _ => targetReached_iff.symm
  have goesOn (hl : s.flags.limitLatch = false) (h1 : ¬ near) (h2 : ¬ played) (h3 : ¬ handsOff) : s.PathGoesOn :=
    ⟨hl, mt near_iff.mpr h1, h2, h3⟩
  refine ⟨rSampleStep_of_latch, fun hl h => rSampleStep_of_atTarget hl (near_iff.mp h), rSampleStep_of_playedOut,
    rSampleStep_of_handsOff, fun hl h1 h2 h3 ha => ?_, fun hl h1 h2 h3 ha hb => ?_⟩
  · exact (rSampleStep_of_goesOn (goesOn hl h1 h2 h3)).trans (unlessOutside_of_above ha)
  · exact (rSampleStep_of_goesOn (goesOn hl h1 h2 h3)).trans (unlessOutside_of_below ha hb)

/-! ## An iteration of the path loop (R305, R311 to R313, R320) -/

theorem pathIterate_of_ne {s : State} {d v : ℚ} (hc : s.cal.cpm ≠ 0) (hd : d = (s.c : ℚ) / s.cal.cpm)
    (hv : v = (cpsValue s.cfg.n s.mem.hist).1 / s.cal.cpm) :
    pathIterate s = .next { s.capture (runMs s) d v with phase := .rCommit, pend := pathLaw (runMs s) d v s } := by
  rw [pathIterate, posVel_of_ne hc, hd, hv]

/-! A mode goes on while its own end is not reached; the ends of the other modes do not concern it. -/

theorem pathGoesOn_of_runOl {s : State} (hl : s.flags.limitLatch = false) (hm : s.mcState = .runOl)
    (ht : runMs s < s.vlen) : s.PathGoesOn := by
  refine ⟨hl, ?_, ?_, ?_⟩ <;> simp [State.AtTarget, State.PlayedOut, State.HandsOff, hm, ht]

theorem pathGoesOn_of_pdff {s : State} (hl : s.flags.limitLatch = false)
    (hm : s.mcState = .runPdff ∨ s.mcState = .runPdffVis) (hv : runMs s < s.vlen) (hd : runMs s < s.dlen) :
    s.PathGoesOn := by
  obtain hm | hm := hm
  · refine ⟨hl, ?_, ?_, ?_⟩ <;> simp [State.AtTarget, State.PlayedOut, State.HandsOff, hm, hv, hd]
  · refine ⟨hl, ?_, ?_, ?_⟩ <;> simp [State.AtTarget, State.PlayedOut, State.HandsOff, hm, hv, hd]

theorem pathGoesOn_of_runPoint {s : State} (hl : s.flags.limitLatch = false) (hm : s.mcState = .runPoint)
    (ht : ¬ targetReached s = true) : s.PathGoesOn := by
  refine ⟨hl, fun ⟨_, h⟩ => ht h, ?_, ?_⟩ <;> simp [State.PlayedOut, State.HandsOff, hm]

theorem distAt_of_getElem? {s : State} {t : Nat} {y : Fixed} (h : s.mem.dist[t]? = some y) : distAt t s = val y := by
  simp [distAt, h]

theorem lt_length_of_getElem? {l : List Fixed} {t : Nat} {x : Fixed} (h : l[t]? = some x) : t < l.length :=
  (List.getElem?_eq_some_iff.mp h).choose

/-! The law of each mode (R311 to R313). -/

theorem pathLaw_of_runOl {s : State} {t : Nat} {x : Fixed} (hm : s.mcState = .runOl) (hx : s.mem.vel[t]? = some x)
    {w : ℚ} (hw : w = val s.setup.pwmConst * (if s.setup.dirNeg = true then -1 else 1) * val x) (d v : ℚ) :
    pathLaw t d v s = some { duty := clipDuty (roundAway w), dir := decide (0 ≤ w) } := by
  rw [pathLaw, hm, openLoop_of_getElem? hx hw]

theorem pathLaw_of_pdff {s : State} {t : Nat} {x y : Fixed} (hm : s.mcState = .runPdff ∨ s.mcState = .runPdffVis)
    (hx : s.mem.vel[t]? = some x) (hy : s.mem.dist[t]? = some y) (d v : ℚ) :
    pathLaw t d v s = some (actuate ((val s.setup.kFf * val x + val s.setup.kP * (val y - d)
      + val s.setup.kD * (val x - v)) * if s.setup.dirNeg = true then -1 else 1)) := by
  have law : pathLaw t d v s = some (pdff t d v s) := by obtain hm | hm := hm <;> rw [pathLaw, hm]
  rw [law, pdff, pdffU, velAt_of_getElem? hx, distAt_of_getElem? hy, dirf_cast]

theorem pathLaw_of_runPoint {s : State} (hm : s.mcState = .runPoint) (t : Nat) (d v : ℚ) :
    pathLaw t d v s = some (point s) := by
  rw [pathLaw, hm]

theorem point_of_lt {s : State} (h : s.c < s.setup.pointTarget.toInt) : point s = upDrive s.setup := if_pos h

theorem point_of_ge {s : State} (h : s.setup.pointTarget.toInt ≤ s.c) : point s = downDrive s.setup :=
  if_neg h.not_gt

/-- Settles O43: an iteration that goes on leaves the command of `pathLaw`, and that is the law of the mode. -/
theorem pathSampleIterates : Obligations.PathSampleIterates := by
  intro s t d v hm hp ht hl hc hlo hhi hd hv f
  obtain rfl : t = runMs s := ht
  rw [sequencerStep_rSample hp (phaseFits_rSample_of_mem hm)]
  have iterates {w : Drive} (hgo : s.PathGoesOn) (law : pathLaw (runMs s) d v s = some w) : rSampleStep s =
      .next { s.capture (runMs s) d v with phase := .rCommit, pend := some w } := by
    rw [rSampleStep_of_goesOn hgo, unlessOutside_of_inside hhi hlo, pathIterate_of_ne hc hd hv, law]
  refine ⟨fun hm x hx => ?_, fun hm x y hx hy => ?_, fun hm => ⟨fun hlt => ?_, fun hgt => ?_⟩⟩
  · exact iterates (pathGoesOn_of_runOl hl hm (lt_length_of_getElem? hx)) (pathLaw_of_runOl hm hx rfl d v)
  · exact iterates (pathGoesOn_of_pdff hl hm (lt_length_of_getElem? hx) (lt_length_of_getElem? hy))
      (pathLaw_of_pdff hm hx hy d v)
  · have short : s.c < s.setup.pointTarget.toInt := by rw [State.c]; omega
    exact iterates (pathGoesOn_of_runPoint hl hm (mt targetReached_iff.mp (by omega)))
      ((pathLaw_of_runPoint hm _ d v).trans (congrArg some (point_of_lt short)))
  · have past : s.setup.pointTarget.toInt ≤ s.c := by rw [State.c]; omega
    exact iterates (pathGoesOn_of_runPoint hl hm (mt targetReached_iff.mp (by omega)))
      ((pathLaw_of_runPoint hm _ d v).trans (congrArg some (point_of_ge past)))

/-! ## The vision loop (R341) -/

theorem rVSampleStep_of_latch {s : State} (hl : s.flags.limitLatch = true) :
    rVSampleStep s = .next (s.runExit .abortLatch) := if_pos hl

theorem rVSampleStep_of_timeUp {s : State} (hl : s.flags.limitLatch = false) (ht : s.setup.tParam.toNat ≤ visMs s) :
    rVSampleStep s = .next (s.runExit .complete) :=
  (if_neg (by simp [hl])).trans (if_pos ht)

theorem rVSampleStep_of_goesOn {s : State} (hl : s.flags.limitLatch = false) (ht : visMs s < s.setup.tParam.toNat) :
    rVSampleStep s = unlessOutside s.setup.slackHiVis (visIterate s) s :=
  (if_neg (by simp [hl])).trans (if_neg ht.not_ge)

theorem visIterate_of_ne {s : State} {d v : ℚ} (hc : s.cal.cpm ≠ 0) (hd : d = (s.c : ℚ) / s.cal.cpm)
    (hv : v = (cpsValue s.cfg.n s.mem.hist).1 / s.cal.cpm) :
    visIterate s = .next { s.capture (runMs s) d v with phase := .rVCommit, pend := visionLaw d s } := by
  rw [visIterate, posVel_of_ne hc, hd, hv]

/-- Settles O45: latch, time, workspace, and the iteration that all three let go on. -/
theorem visionSampleSteps : Obligations.VisionSampleSteps := by
  intro s t tv hm hp ht htv c above below
  subst ht htv
  rw [sequencerStep_rVSample hp (phaseFits_rVSample_of_mem hm)]
  refine ⟨rVSampleStep_of_latch, rVSampleStep_of_timeUp, fun hl ht ha => ?_, fun hl ht ha hb => ?_,
    fun hl ht ha hb hc d v hd hv => ?_⟩
  · exact (rVSampleStep_of_goesOn hl ht).trans (unlessOutside_of_above ha)
  · exact (rVSampleStep_of_goesOn hl ht).trans (unlessOutside_of_below ha hb)
  · rw [rVSampleStep_of_goesOn hl ht, unlessOutside_of_inside (not_lt.mp ha) (not_lt.mp hb)]
    exact visIterate_of_ne hc hd hv

/-! ## Workspace safety (R304) -/

/-- The two ways a SAMPLE step stops the motor: the run ends, or its playback hands off to the vision loop. -/
def StopsMotor (s : State) (r : Result) : Prop :=
  (∃ c, r = .next (s.runExit c)) ∨
    (s.mcState = .runPdffVis ∧ s.phase = .rSample ∧ r = .next (s.handoff s.live.tick))

theorem unlessOutside_stopsMotor {slack : U32} {s : State} {go : Result} (h : wsCheck slack s ≠ .ok) :
    StopsMotor s (unlessOutside slack go s) := by
  unfold unlessOutside
  cases hw : wsCheck slack s with
  | high => exact .inl ⟨_, rfl⟩
  | low => exact .inl ⟨_, rfl⟩
  | ok => exact absurd hw h

/-- Every test of R305 that comes before the workspace check stops the motor too. -/
theorem rSampleStep_stopsMotor {s : State} (hp : s.phase = .rSample) (h : wsCheck s.setup.slackHiPath s ≠ .ok) :
    StopsMotor s (rSampleStep s) := by
  unfold rSampleStep
  split
  · exact .inl ⟨_, rfl⟩
  split
  · exact .inl ⟨_, rfl⟩
  split
  · exact .inl ⟨_, rfl⟩
  split
  · exact .inl ⟨_, rfl⟩
  split
  · rename_i hands
    obtain ⟨hm, _⟩ := hands
    exact .inr ⟨hm, hp, rfl⟩
  · exact unlessOutside_stopsMotor h

/-- R341: latch and time end the run before the workspace check does. -/
theorem rVSampleStep_stopsMotor {s : State} (h : wsCheck s.setup.slackHiVis s ≠ .ok) :
    StopsMotor s (rVSampleStep s) := by
  unfold rVSampleStep
  split
  · exact .inl ⟨_, rfl⟩
  split
  · exact .inl ⟨_, rfl⟩
  · exact unlessOutside_stopsMotor h

/-- Settles O52: out of bounds the check of either loop is not passed, and every other way out of a SAMPLE stops the
motor. -/
theorem workspaceViolationStops : Obligations.WorkspaceViolationStops := by
  intro s slack _ hf hp hout
  have outside : wsCheck slack s ≠ .ok := fun h => by
    obtain ⟨hhi, hlo⟩ := wsCheck_eq_ok.mp h
    exact hout.elim hhi.not_gt hlo.not_gt
  have stops : StopsMotor s (sequencerStep s) := by
    unfold State.PhaseOk at hf
    obtain ⟨hp, rfl⟩ | ⟨hp, rfl⟩ := hp <;> rw [hp] at hf
    · rw [sequencerStep_rSample hp hf]
      exact rSampleStep_stopsMotor hp outside
    · rw [sequencerStep_rVSample hp hf]
      exact rVSampleStep_stopsMotor outside
  obtain ⟨c, e⟩ | ⟨hm, hp, e⟩ := stops
  · exact ⟨_, e, rfl, rfl, rfl, .inl ⟨rfl, rfl⟩⟩
  · exact ⟨_, e, rfl, rfl, rfl, .inr ⟨hm, hp, hm, rfl⟩⟩

end Sys2Proof.Machine
end

section
/-!
PROOFS. Setpoint and trace access (O32, O33, O34): 45_register_access.md R370 to R373.
-/

namespace Sys2Proof.Machine

/-! ## One setpoint memory as a list -/

@[simp] theorem spWords_setSp (m : SpMem) (ws : List Fixed) (s : State) : spWords m (s.setSp m ws) = ws := by
  cases m <;> rfl

@[simp] theorem spWords_withRsp (m : SpMem) (st : Status) (d : Data) (s : State) :
    spWords m (s.withRsp st d) = spWords m s := rfl

/-! ## SP_CLR and SP_PUSH (R370, R371) -/

theorem exec_spClr_of_busy {s : State} (hb : s.mcState.isBusy = true) (m : SpMem) :
    exec (.spClr m) s = .next (s.withRsp .errBusy 0#64) := if_pos hb

theorem exec_spClr {s : State} (hb : s.mcState.isBusy = false) (m : SpMem) :
    exec (.spClr m) s = .next ((s.setSp m []).withRsp .ok 0#64) := by
  simp [exec, execSpClr, respond, hb]

theorem exec_spPush_of_busy {s : State} (hb : s.mcState.isBusy = true) (m : SpMem) (x : Fixed) :
    exec (.spPush m x) s = .next (s.withRsp .errBusy 0#64) := if_pos hb

theorem exec_spPush_of_full {m : SpMem} {s : State} (hb : s.mcState.isBusy = false)
    (hl : (spWords m s).length = s.cfg.spMax) (x : Fixed) :
    exec (.spPush m x) s = .next (s.withRsp .errFull 0#64) := by
  simp [exec, execSpPush, respond, hb, hl]

theorem exec_spPush {m : SpMem} {s : State} (hb : s.mcState.isBusy = false)
    (hl : (spWords m s).length ≠ s.cfg.spMax) (x : Fixed) :
    exec (.spPush m x) s =
      .next ((s.setSp m (spWords m s ++ [x])).withRsp .ok (BitVec.ofNat 64 ((spWords m s).length + 1))) := by
  simp [exec, execSpPush, respond, hb, hl]

/-- Settles O32: the tests of R370 and R371 in their order; the memory named is replaced and the other stays. -/
theorem setpointWrites : Obligations.SetpointWrites := by
  refine fun m x s => ⟨fun hb => ?_, fun hb => ⟨?_, fun hl => exec_spPush_of_full hb hl x, fun hl => ?_⟩⟩
  · simp only [List.forall_mem_cons]
    exact ⟨exec_spClr_of_busy hb m, exec_spPush_of_busy hb m x, nofun⟩
  · rw [exec_spClr hb]
    cases m <;> rfl
  · rw [exec_spPush hb hl]
    cases m <;> rfl

/-! ## SP_RD (R372) -/

theorem exec_spRd_of_getElem? {m : SpMem} {i : Nat} {s : State} {x : Fixed} (h : (spWords m s)[i]? = some x) :
    exec (.spRd m i) s = .next (s.withRsp .ok x) := by
  simp [exec, execSpRd, respond, h]

theorem exec_spRd_of_length_le {m : SpMem} {i : Nat} {s : State} (h : (spWords m s).length ≤ i) :
    exec (.spRd m i) s = .next (s.withRsp .errIndex 0#64) := by
  simp [exec, execSpRd, respond, List.getElem?_eq_none h]

/-! ## A loaded sequence (R146, R371) -/

/-- Pushes append in order as long as the memory has room for all of them. -/
theorem execAll_spPush {m : SpMem} (xs : List Fixed) {s : State} (hb : s.mcState.isBusy = false)
    (hl : (spWords m s).length + xs.length ≤ s.cfg.spMax) :
    ∃ t, execAll (xs.map (.spPush m)) s = .next t ∧ spWords m t = spWords m s ++ xs := by
  induction xs generalizing s with
  | nil => exact ⟨s, rfl, (List.append_nil _).symm⟩
  | cons x xs ih =>
    rw [List.length_cons] at hl
    simp only [List.map_cons, execAll, exec_spPush hb (by omega : (spWords m s).length ≠ s.cfg.spMax)]
    obtain ⟨t, run, words⟩ := ih
      (s := (s.setSp m (spWords m s ++ [x])).withRsp .ok (BitVec.ofNat 64 ((spWords m s).length + 1)))
      (by simpa using hb) (by simp; omega)
    exact ⟨t, run, by simpa using words⟩

theorem execAll_pseudoLoad {m : SpMem} {xs : List Fixed} {s : State} (hb : s.mcState.isBusy = false)
    (hl : xs.length ≤ s.cfg.spMax) : ∃ t, execAll (pseudoLoad m xs) s = .next t ∧ spWords m t = xs := by
  simp only [pseudoLoad, execAll, exec_spClr hb]
  simpa using execAll_spPush (m := m) xs (s := (s.setSp m []).withRsp .ok 0#64) (by simpa using hb) (by simpa using hl)

/-- Settles O33: the two cases of the lookup, and the memory that a load leaves. -/
theorem setpointReads : Obligations.SetpointReads := by
  refine ⟨fun m i s => ⟨fun x => exec_spRd_of_getElem? (m := m), exec_spRd_of_length_le (m := m)⟩,
    fun m xs s hb hl => ?_⟩
  obtain ⟨t, run, words⟩ := execAll_pseudoLoad (m := m) hb hl
  exact ⟨t, run, fun i x hx => exec_spRd_of_getElem? (words ▸ hx)⟩

/-! ## TR_RD (R373) -/

/-- Settles O34: the two cases of the lookup. -/
theorem trRdAnswers : Obligations.TrRdAnswers := by
  refine fun i s => ⟨fun x hx => ⟨?_, ?_, ?_⟩, fun hi f => ?_⟩
  · simp [exec, execTrRd, hx, respond, State.withRsp]
  · simp [exec, execTrRd, hx, respond, State.withRsp]
  · simp [exec, execTrRd, hx, respond, State.withRsp]
  · simp [exec, execTrRd, List.getElem?_eq_none hi, respond, State.withRsp]

end Sys2Proof.Machine
end

section
/-!
PROOFS. Register images (O30), legal write values (O31) and accepted register writes (O28): 10_state.md R73, R75,
45_register_access.md R361 to R367.
-/

namespace Sys2Proof.Machine

/-! ## Bits, fields and extensions (R73, R75) -/

/-- The low part of a concatenation is below the weight of the high part. -/
theorem toNat_append_eq_add {m n : Nat} (x : BitVec m) (y : BitVec n) :
    (x ++ y).toNat = x.toNat * 2 ^ n + y.toNat := by
  rw [BitVec.toNat_append, ← Nat.shiftLeft_add_eq_or_of_lt y.isLt, Nat.shiftLeft_eq]

@[simp] theorem bit_toNat (b : Bool) : (bit b).toNat = b.toNat := BitVec.toNat_ofBool b

theorem encStatus_toNat (e : Encoder) : (encStatus e).toNat =
    e.levA.toNat + 2 * e.levB.toNat + 4 * e.lastPin.code.toNat + 16 * e.encEn.toNat + 32 * e.idxValid.toNat := by
  rw [encStatus, BitVec.toNat_setWidth_of_le (by norm_num)]
  simp only [toNat_append_eq_add, bit_toNat]
  ring

theorem encCtrl_toNat (e : Encoder) : (encCtrl e).toNat = e.encEn.toNat + 2 * e.idxRstEn.toNat := by
  rw [encCtrl, BitVec.toNat_setWidth_of_le (by norm_num)]
  simp only [toNat_append_eq_add, bit_toNat]
  ring

theorem mcStatus_toNat (s : State) : (mcStatus s).toNat = s.mcState.code.toNat + 16 * s.phase.code.toNat := by
  rw [mcStatus, BitVec.toNat_setWidth_of_le (by norm_num)]
  simp only [toNat_append_eq_add]
  ring

theorem mcFlags_toNat (s : State) : (mcFlags s).toNat =
    s.flags.homed.toNat + 2 * s.flags.pathStarted.toNat + 4 * s.flags.pathDone.toNat +
      8 * s.flags.visStarted.toNat + 16 * s.flags.visDone.toNat + 32 * s.flags.allDone.toNat +
      64 * s.flags.limitLatch.toNat + 128 * s.flags.latchEn.toNat + 256 * s.setup.kvisSet.toNat := by
  rw [mcFlags, BitVec.toNat_setWidth_of_le (by norm_num)]
  simp only [toNat_append_eq_add, bit_toNat]
  ring

theorem mcOut_toNat (s : State) : (mcOut s).toNat = s.duty.toNat + 256 * s.dir.toNat := by
  rw [mcOut, BitVec.toNat_setWidth_of_le (by norm_num)]
  simp only [toNat_append_eq_add, bit_toNat]
  ring

theorem mcCfg_toNat (c : Setup) : (mcCfg c).toNat = c.dirNeg.toNat + 2 * c.visBound.toNat := by
  rw [mcCfg, BitVec.toNat_setWidth_of_le (by norm_num)]
  simp only [toNat_append_eq_add, bit_toNat]
  ring

theorem nat_image_toNat {n : Nat} (h : n < 2 ^ 32) : (BitVec.ofNat 64 n).toNat = n :=
  (BitVec.toNat_ofNat n 64).trans (Nat.mod_eq_of_lt (by omega))

/-- Settles O30: the codes by cases, and the image of each register by its type. -/
theorem registerImages : Obligations.RegisterImages := by
  refine ⟨fun m => by cases m <;> decide, fun p => by cases p <;> decide, fun p => by cases p <;> decide,
    fun h => by cases h <;> decide, fun r => ?_, fun s => ⟨⟨encStatus_toNat _, encCtrl_toNat _, mcStatus_toNat _,
      mcFlags_toNat _, mcOut_toNat _, mcCfg_toNat _, BitVec.toNat_setWidth_of_le (by norm_num)⟩, ?_, ?_, ?_, ?_, ?_,
      fun hm => ?_⟩⟩
  · cases r with
    | none => decide
    | ended c => cases c <;> decide
    | inProgress => decide
  · simp [readImage, BitVec.toInt_signExtend_of_le]
  · simp [readImage, BitVec.toNat_setWidth_of_le, -BitVec.toNat_setWidth]
  · simp [readImage, BitVec.toNat_setWidth_of_le, -BitVec.toNat_setWidth]
  · simp [readImage]
  · simp [readImage]
  · obtain ⟨⟨_, n_le, _, sp_lt, trace_lt⟩, hist_le, vel_le, dist_le, trace_le⟩ := hm
    simp only [List.forall_mem_cons, readImage]
    exact ⟨nat_image_toNat (by omega), nat_image_toNat (by omega), nat_image_toNat (by omega),
      nat_image_toNat (by omega), nat_image_toNat (by omega), BitVec.toNat_setWidth_of_le (by norm_num), nofun⟩

/-! ## Legal values by type (R365) -/

theorem fitsBits2_iff_lt {x : Data} : fitsBits2 x = true ↔ x.toNat < 2 ^ 2 := decide_eq_true_iff

theorem fitsBits2_iff_high {x : Data} : fitsBits2 x = true ↔ x.extractLsb' 2 62 = 0#62 := by
  have high : (x.extractLsb' 2 62).toNat = x.toNat / 4 % 2 ^ 62 := by
    rw [BitVec.extractLsb'_toNat, Nat.shiftRight_eq_div_pow]
  rw [fitsBits2_iff_lt, ← BitVec.toNat_inj, high, BitVec.toNat_ofNat]
  omega

theorem fitsU8_iff {x : Data} : fitsU8 x = true ↔ x.toNat ≤ 255 := decide_eq_true_iff

theorem fitsU32_iff {x : Data} : fitsU32 x = true ↔ x.toNat ≤ 2 ^ 32 - 1 := decide_eq_true_iff

theorem fitsS32_iff {x : Data} : fitsS32 x = true ↔ -2 ^ 31 ≤ x.toInt ∧ x.toInt ≤ 2 ^ 31 - 1 := by
  simp only [fitsS32, Bool.and_eq_true, decide_eq_true_iff]

/-- An s32 is a pattern whose bits from the sign bit of its low half on are all equal. -/
theorem fitsS32_iff_high {x : Data} :
    fitsS32 x = true ↔ x.extractLsb' 31 33 = 0#33 ∨ x.extractLsb' 31 33 = BitVec.allOnes 33 := by
  have high : (x.extractLsb' 31 33).toNat = x.toNat / 2 ^ 31 % 2 ^ 33 := by
    rw [BitVec.extractLsb'_toNat, Nat.shiftRight_eq_div_pow]
  rw [fitsS32_iff, ← BitVec.toNat_inj, ← BitVec.toNat_inj, high, BitVec.toNat_ofNat, BitVec.toNat_allOnes,
    BitVec.toInt_eq_toNat_cond]
  omega

/-! ## Accepted writes (R362) -/

/-- The writable registers are ENC_CTRL, which is in the encoder unit, and the configuration. -/
theorem Reg.access_eq_rw {r : Reg} : r.access = .rw ↔ r = .encCtrl ∨ r.isMotorConfig = true := by
  cases r <;> decide

theorem storeReg_of_isMotorConfig {r : Reg} (h : r.isMotorConfig = true) (x : Data) (s : State) :
    storeReg r x s = { s with setup := storeSetup r x s.setup } := by
  cases r <;> first | rfl | cases h

theorem exec_regWr_accepted {r : Reg} {x : Data} {s : State} (hr : r.access ≠ .ro)
    (hb : r.isMotorConfig = true → s.mcState.isBusy = false) (hx : legalValue r x s = true) :
    exec (.regWr r.sel x) s = .next ((storeReg r x s).withRsp .ok 0#64) := by
  simp [exec, execRegWr, respond, writeRefusal_eq_none.mpr ⟨hr, hb, hx⟩]

/-- Outside the busy states a configuration register is written or refused as the value is legal or not. -/
theorem exec_regWr_motorConfig {r : Reg} (hr : r.isMotorConfig = true) {x : Data} {s : State}
    (hb : s.mcState.isBusy = false) {legal : Prop} (hx : legalValue r x s = true ↔ legal) :
    (legal → exec (.regWr r.sel x) s =
        .next (({ s with setup := storeSetup r x s.setup } : State).withRsp .ok 0#64)) ∧
      (¬ legal → exec (.regWr r.sel x) s = .next (s.withRsp .errRange 0#64)) := by
  have writable : r.access ≠ .ro := by rw [Reg.access_eq_rw.mpr (.inr hr)]; nofun
  refine ⟨fun h => ?_, fun h => ?_⟩
  · rw [← storeReg_of_isMotorConfig hr]
    exact exec_regWr_accepted writable (fun _ => hb) (hx.mpr h)
  · exact exec_regWr_refused (writeRefusal_of_illegal writable (fun _ => hb) (Bool.eq_false_iff.mpr (mt hx.mp h)))

/-! ## The two widths (R366) -/

theorem legalValue_limitWidth {x : Data} {s : State} :
    legalValue .limitWidth x s = true ↔ 0 ≤ val x ∧ val s.setup.workspaceWidth ≤ val x := by
  simp [legalValue, val_nonneg, val_le_val]

theorem legalValue_workspaceWidth {x : Data} {s : State} :
    legalValue .workspaceWidth x s = true ↔ 0 ≤ val x ∧ val x ≤ val s.setup.limitWidth := by
  simp [legalValue, val_nonneg, val_le_val]

/-- Settles O31: `legalValue` is the test of the register's type, and the widths are compared as their values. -/
theorem legalWriteValues : Obligations.LegalWriteValues := by
  refine fun x s => ⟨?_, ?_, ?_, fitsS32_iff_high, ?_, fun hb => ?_⟩
  · simp [legalValue, fitsBits2_iff_high]
  · simp [legalValue, fitsU8_iff]
  · simp [legalValue, fitsU32_iff]
  · simp [legalValue]
  · obtain ⟨limit_ok, limit_bad⟩ := exec_regWr_motorConfig rfl hb (legalValue_limitWidth (x := x))
    obtain ⟨work_ok, work_bad⟩ := exec_regWr_motorConfig rfl hb (legalValue_workspaceWidth (x := x))
    simp only [not_and_or, not_le] at limit_bad work_bad
    exact ⟨fun h0 h1 => limit_ok ⟨h0, h1⟩, limit_bad, fun h0 h1 => work_ok ⟨h0, h1⟩, work_bad⟩

/-! ## A legal value survives its field (R362) -/

theorem setWidth_image_of_lt {w : Nat} {x : Data} (h : x.toNat < 2 ^ w) : (x.setWidth w).setWidth 64 = x := by
  apply BitVec.eq_of_toNat_eq
  rw [BitVec.toNat_setWidth, BitVec.toNat_setWidth, Nat.mod_eq_of_lt h, Nat.mod_eq_of_lt x.isLt]

theorem bits2_image {x : Data} (h : fitsBits2 x = true) :
    (bit (x.getLsbD 1) ++ bit (x.getLsbD 0)).setWidth 64 = x := by
  have two_bits : bit (x.getLsbD 1) ++ bit (x.getLsbD 0) = x.setWidth 2 := by
    apply BitVec.eq_of_getLsbD_eq
    intro i hi
    rw [BitVec.getLsbD_append]
    obtain rfl | rfl : i = 0 ∨ i = 1 := by omega
    · simp [bit]
    · simp [bit]
  rw [two_bits]
  exact setWidth_image_of_lt (fitsBits2_iff_lt.mp h)

theorem toU8_image {x : Data} (h : fitsU8 x = true) : (toU8 x).setWidth 64 = x :=
  setWidth_image_of_lt (Nat.lt_succ_of_le (fitsU8_iff.mp h))

theorem toU32_image {x : Data} (h : fitsU32 x = true) : (toU32 x).setWidth 64 = x :=
  setWidth_image_of_lt (Nat.lt_succ_of_le (fitsU32_iff.mp h))

theorem toU32_signed_image {x : Data} (h : fitsS32 x = true) : (toU32 x).signExtend 64 = x := by
  obtain ⟨lo, hi⟩ := fitsS32_iff.mp h
  apply BitVec.eq_of_toInt_eq
  rw [toU32, BitVec.toInt_signExtend_of_le (by norm_num), ← BitVec.signExtend_eq_setWidth_of_le x (by norm_num),
    BitVec.toInt_signExtend_eq_toInt_bmod_of_le x (by norm_num), Int.bmod_eq_of_le (by omega) (by omega)]

/-! ## What a write shows in the images (R367) -/

theorem storeSetup_kvisSet (r : Reg) (x : Data) (c : Setup) :
    (storeSetup r x c).kvisSet = (c.kvisSet || decide (r = .kVis)) := by
  cases r <;> simp [storeSetup]

/-- A written register reads back as written: a legal value of its type survives the field's width. -/
theorem readImage_storeReg {r : Reg} {x : Data} {s : State} (hr : r.access = .rw) (hx : legalValue r x s = true) :
    readImage r (storeReg r x s) = x := by
  cases r with
  | encCtrl | mcCfg => exact bits2_image hx
  | minUp | minDown => exact toU8_image hx
  | tol | probeCeil | slackHiPath | slackHiVis | slackLo | tParam => exact toU32_image hx
  | pointTarget => exact toU32_signed_image hx
  | limitWidth | workspaceWidth | kFf | kP | kD | pwmConst | kVis => rfl
  | _ => cases hr

/-- The encoder enables show in ENC_CTRL and ENC_STATUS alone. -/
theorem readImage_storeReg_encCtrl {r : Reg} (h : r ≠ .encCtrl) (h' : r ≠ .encStatus) (x : Data) (s : State) :
    readImage r (storeReg .encCtrl x s) = readImage r s := by
  cases r <;> first | rfl | contradiction

/-- Each configuration register is a field of its own; MC_FLAGS shows KVIS_SET, and the other registers show nothing of
the configuration. -/
theorem readImage_storeSetup_of_ne {r r' : Reg} (h : r' ≠ r) (hk : ¬ (r = .kVis ∧ r' = .mcFlags)) (x : Data)
    (s : State) : readImage r' { s with setup := storeSetup r x s.setup } = readImage r' s := by
  cases r' with
  | mcFlags =>
    have kept : (storeSetup r x s.setup).kvisSet = s.setup.kvisSet := by
      rw [storeSetup_kvisSet, decide_eq_false fun e => hk ⟨e, rfl⟩, Bool.or_false]
    simp only [readImage, mcFlags, kept]
  | mcCfg | minUp | minDown | tol | probeCeil | slackHiPath | slackHiVis | slackLo | limitWidth | workspaceWidth | kFf
  | kP | kD | pwmConst | kVis | tParam | pointTarget => cases r <;> first | rfl | contradiction
  | _ => rfl

theorem readImage_storeReg_of_ne {r r' : Reg} (hr : r.access = .rw) (h : r' ≠ r)
    (hk : ¬ (r = .kVis ∧ r' = .mcFlags)) (he : ¬ (r = .encCtrl ∧ r' = .encStatus)) (x : Data) (s : State) :
    readImage r' (storeReg r x s) = readImage r' s := by
  obtain rfl | hc := Reg.access_eq_rw.mp hr
  · exact readImage_storeReg_encCtrl h (fun e => he ⟨rfl, e⟩) x s
  · rw [storeReg_of_isMotorConfig hc]
    exact readImage_storeSetup_of_ne h hk x s

theorem storeReg_kvisSet_of_rw {r : Reg} (hr : r.access = .rw) (x : Data) (s : State) :
    (storeReg r x s).setup.kvisSet = (s.setup.kvisSet || decide (r = .kVis)) := by
  obtain rfl | hc := Reg.access_eq_rw.mp hr
  · exact (Bool.or_false _).symm
  · rw [storeReg_of_isMotorConfig hc]
    exact storeSetup_kvisSet r x s.setup

/-- Only ERR_FLAGS stores in the error flags. -/
theorem storeReg_errFlags_of_rw {r : Reg} (hr : r.access = .rw) (x : Data) (s : State) :
    (storeReg r x s).errFlags = s.errFlags := by
  obtain rfl | hc := Reg.access_eq_rw.mp hr
  · rfl
  · rw [storeReg_of_isMotorConfig hc]

/-- `storeReg_frame` for a read-write register. -/
theorem storeReg_frame_of_rw {r : Reg} (hr : r.access = .rw) (x : Data) (s : State) :
    storeReg r x s =
      { s with setup := (storeReg r x s).setup,
               enc := { s.enc with encEn := (storeReg r x s).enc.encEn,
                                   idxRstEn := (storeReg r x s).enc.idxRstEn } } := by
  have frame := storeReg_frame r x s
  rwa [storeReg_errFlags_of_rw hr] at frame

/-- R367: a written 1 clears its flag. -/
theorem clearErr_getLsbD (x : Data) (s : State) {b : Nat} (hb : b < 2) :
    (s.clearErr x).errFlags.getLsbD b = (s.errFlags.getLsbD b && !x.getLsbD b) := by
  simp [hb]

/-- Settles O28: an accepted write is `storeReg` and its response. -/
theorem regWrStoresAndReadsBack : Obligations.RegWrStoresAndReadsBack := by
  refine ⟨fun r => by cases r <;> decide, fun r x s hr hb hx => ?_, fun x s hx => ?_, fun x s hx => ?_⟩
  · refine ⟨_, exec_regWr_accepted (by rw [hr]; nofun) hb hx, rfl, readImage_storeReg hr hx,
      fun r' h hk he => readImage_storeReg_of_ne hr h hk he x s, storeReg_kvisSet_of_rw hr x s, ?_⟩
    exact congrArg (State.withRsp .ok 0#64) (storeReg_frame_of_rw hr x s)
  · exact exec_regWr_accepted (r := .encCtrl) nofun nofun (fitsBits2_iff_lt.mpr (Nat.lt_succ_of_le hx))
  · exact ⟨_, exec_regWr_accepted (r := .errFlags) nofun nofun (fitsBits2_iff_lt.mpr (Nat.lt_succ_of_le hx)),
      fun _ => clearErr_getLsbD x s, rfl⟩

end Sys2Proof.Machine
end

section
/-!
PROOFS. Every operation completes (O53): 60_exceptions.md R400, R401. What an operation leaves to the environment and
what it puts on the response port are case splits over its effects and over its answers.
-/

namespace Sys2Proof.Machine

/-- An operation writes neither the samples nor the stimuli to come: they are the environment's (R104). -/
theorem Effect.environment {i : Instr} {s t : State} (he : Effect i s t) :
    t.live = s.live ∧ t.script = s.script ∧ t.turnNo = s.turnNo := by
  cases he with
  | write r x hw =>
    rw [storeReg_frame]
    exact ⟨rfl, rfl, rfl⟩
  | clear m hb => exact ⟨State.setSp_live .., State.setSp_script .., State.setSp_turnNo ..⟩
  | push m x hb hl => exact ⟨State.setSp_live .., State.setSp_script .., State.setSp_turnNo ..⟩
  | _ => exact ⟨rfl, rfl, rfl⟩

theorem port_of_mem_runCommands {k : Tick} {i : Instr} {m : McState} {nv nd nz : Bool}
    (h : (i, m, nv, nd, nz) ∈ runCommands k) : i.port = .cmd := by
  simp only [runCommands, List.mem_cons, Prod.mk.injEq, List.not_mem_nil, or_false] at h
  obtain ⟨rfl, _⟩ | ⟨rfl, _⟩ | ⟨rfl, _⟩ | ⟨rfl, _⟩ | ⟨rfl, _⟩ := h <;> rfl

/-- R133: the response port belongs to the commands; an event leaves it as it was. -/
theorem Effect.rsp_of_event {i : Instr} {s t : State} (he : Effect i s t) (hi : i.port = .evt) : t.rsp = s.rsp := by
  cases he with
  | drop | edge | index | trip => rfl
  | answer hc => cases hi.symm.trans hc
  | run k hr ha => cases hi.symm.trans (port_of_mem_runCommands hr)
  | _ => cases hi

/-- R400: accepted or refused, a command has its response on the port. -/
theorem Answers.rsp_ne_none {s t : State} {r : Result} (h : Answers s r) (ht : r = .next t) : t.rsp ≠ none := by
  cases h with
  | accepted d u =>
    cases ht
    nofun
  | refused st =>
    cases ht
    nofun

/-- Settles O53: an operation performs one of its effects, which says what it leaves alone; for a command, the form of its
answer says that there is a response. -/
theorem everyOperationCompletes : Obligations.EveryOperationCompletes := by
  intro i s
  obtain ⟨t, ht, he⟩ := exec_performs i s
  obtain ⟨hlive, hscript, hturnNo⟩ := he.environment
  exact ⟨t, ht, he.cfg, hlive, hscript, hturnNo, he.rsp_of_event, fun hi => (exec_answers hi s).rsp_ne_none ht⟩

end Sys2Proof.Machine
end

section
/-!
PROOFS. Reset (O8) and the invariant right after it (O60): 70_reset_and_hazards.md R440, R441.
-/

namespace Sys2Proof.Machine

/-! ## What reset leaves and what the registers then read -/

/-- The calibration results are 0 after reset, and 0 has an exact image (R18). -/
theorem qImage_zero : qImage 0 = 0#64 := by
  rw [← val_zero, qImage_val]

/-- A state right after reset is left as it is by another reset. -/
theorem toReset_resetOf (c : Config) : (State.resetOf c).toReset = State.resetOf c := rfl

/-- R441: six registers have a value of their own after reset and the others read 0. The composite registers are the sums
of their fields (R73), the rational ones read through the image of 0. -/
theorem readImage_resetOf (c : Config) (r : Reg) :
    readImage r (State.resetOf c) =
      if r = .encStatus then 0x10#64 else if r = .encCtrl then 0x1#64 else if r = .mcOut then 0x100#64
      else if r = .homeResult then 0xFD#64 else if r = .encN then BitVec.ofNat 64 c.n
      else if r = .axisId then c.axis.id.setWidth 64 else 0#64 := by
  cases r with
  | encStatus => exact BitVec.eq_of_toNat_eq (encStatus_toNat _)
  | encCtrl => exact BitVec.eq_of_toNat_eq (encCtrl_toNat _)
  | mcStatus => exact BitVec.eq_of_toNat_eq (mcStatus_toNat _)
  | mcFlags => exact BitVec.eq_of_toNat_eq (mcFlags_toNat _)
  | mcOut => exact BitVec.eq_of_toNat_eq (mcOut_toNat _)
  | mcCfg => exact BitVec.eq_of_toNat_eq (mcCfg_toNat _)
  | cpm | wwCount | limitBuffer => exact qImage_zero
  | _ => rfl

/-- A turn of reset takes the state to `State.toReset`, whatever it was. -/
theorem takeTurn_reset (s : State) : takeTurn .reset s = .next s.toReset := rfl

/-- Settles O8: the next stimulus is the script's first, whose turn is reset, and the registers of the state it leaves are
read one by one. -/
theorem resetClearsState : Obligations.ResetClearsState := by
  refine ⟨fun s l rest hs => ?_, readImage_resetOf⟩
  rw [step, nextStimulus_cons s _ _ hs, State.presented_cons s _ _ hs, takeTurn_reset]
  rfl

/-! ## The invariant right after reset -/

theorem resetOf_inv {c : Config} (h : c.wf) : (State.resetOf c).Inv := by
  rw [← toReset_resetOf c]
  exact toReset_inv h

/-- Settles O60: reset establishes the invariant for legal parameters, and those of the test vectors are legal. -/
theorem resetHasInvariant : Obligations.ResetHasInvariant :=
  ⟨fun _ => resetOf_inv, resetOf_inv reset_memoryOk.1⟩

end Sys2Proof.Machine
end
